-- ==== Sys2Proof/Word.lean ====
section
/-! DEFINITION. The word type of the Pazvel MG-420 (spec 00 Conventions, 11 R169). -/

namespace Sys2Proof

/-- A word: 4 bytes, bit 0 the least significant (R169). Addresses are words too. -/
abbrev Word := BitVec 32

end Sys2Proof
end

