-- ==== Sys2Proof/Syntax.lean ====
section
/-! DEFINITION. The events of the MG-420, one constructor of `Instr` per row of spec/opcode_table.json,
and the types of their operands. The table gives its rows no bits, so an operand is what the spec says
the event carries. -/

namespace Sys2Proof.Machine

/-- The access kind of a request (R24). -/
inductive AccessKind where
  | fetch | read | write
  deriving DecidableEq, Repr

/-- The privilege of a request (R24). -/
inductive Privilege where
  | supervisor | user
  deriving DecidableEq, Repr

/-- The two response codes of either port (R25). -/
inductive RespCode where
  | okay | error
  deriving DecidableEq, Repr

/-- Stream 0 is the event stream, stream 1 the capture stream (R77). -/
inductive StreamId where
  | event | capture
  deriving DecidableEq, Repr

/-- The START_MODE strap: which reset policy is loaded (R8). -/
inductive StartMode where
  | openStart | closedStart
  deriving DecidableEq, Repr

/-- One beat of a write as taken: its data and its four byte enables, enable 0 governing bits 7 to 0
(R24, R169). -/
structure WriteBeat where
  data    : Word
  enables : BitVec 4
  deriving DecidableEq, Repr

/-- A request on either port (R24): the processor complex's, or one the part issues (R26, R122). -/
structure Request where
  address   : Word
  kind      : AccessKind
  privilege : Privilege
  master    : BitVec 3
  /-- number of 4-byte beats, 1 to 16 -/
  beats     : Nat
  /-- one entry per beat for a WRITE, none otherwise -/
  writeData : List WriteBeat
  deriving DecidableEq, Repr

/-- A whole memory response: one code and, for a read or fetch, its data beats in order (R25, R123).
The responses the part hands the processor have the same form. -/
structure MemResponse where
  code : RespCode
  data : List Word
  deriving DecidableEq, Repr

/-- One beat of a write completion offered to the watchers: folded word address, enables, data (R36). -/
structure CompletedBeat where
  address : Word
  enables : BitVec 4
  data    : Word
  deriving DecidableEq, Repr

/-- A write completion offered to the watchers (R36). -/
structure WriteCompletion where
  privilege : Privilege
  master    : BitVec 3
  beats     : List CompletedBeat
  deriving DecidableEq, Repr

end Sys2Proof.Machine

namespace Sys2Proof

open Machine

/-- The events of the part: the rows of spec/opcode_table.json. A command row carries the privilege of the
write that delivers it; its arguments are the argument shadow's (R132). -/
inductive Instr where
  /-- RESET (R37): assertion of RESET, with the straps sampled while it is asserted -/
  | reset (anchorSel : BitVec 4) (mode : StartMode)
  /-- RESET_RELEASE (R37): release of RESET, with the straps as last sampled -/
  | resetRelease (anchorSel : BitVec 4) (mode : StartMode)
  /-- DECISION_POINT (R28): a request offered at the processor port -/
  | decisionPoint (req : Request)
  /-- MEMORY_GRANT (R120) -/
  | memoryGrant
  /-- PASS_MEMORY_COMPLETION (R31): memory's answer to a forwarded transaction -/
  | passMemoryCompletion (ans : MemResponse)
  /-- DESCRIPTOR_FETCH_COMPLETION (R98) -/
  | descriptorFetchCompletion (ans : MemResponse)
  /-- RECORD_BURST_COMPLETION (R101) -/
  | recordBurstCompletion (code : RespCode)
  /-- STATUS_WRITE_COMPLETION (R104) -/
  | statusWriteCompletion (code : RespCode)
  /-- REPORT_WRITE_COMPLETION (R161) -/
  | reportWriteCompletion (code : RespCode)
  /-- STATS_BURST_COMPLETION (R49) -/
  | statsBurstCompletion (code : RespCode)
  /-- POLICY_READ_COMPLETION (R149) -/
  | policyReadCompletion (ans : MemResponse)
  /-- DRAIN_RESPONSE (R38): an answer while the drain count is above 0 -/
  | drainResponse (ans : MemResponse)
  /-- VOID_ANSWER_DISCARD (R123): an answer to a voided entry, or one that belongs to none -/
  | voidAnswerDiscard (ans : MemResponse)
  /-- DELIVERY_END (R32) -/
  | deliveryEnd
  /-- TICK_ADVANCE (R87): the clock at which the prescale count reaches the divider -/
  | tickAdvance
  /-- QUIET_TIMER_EXPIRY (R63): the advance at which the quiet timer reaches 0 -/
  | quietTimerExpiry
  /-- LINGER_CLOSE (R103): the advance at which that stream's walker closes its buffer -/
  | lingerClose (stream : StreamId)
  /-- ANCHOR_ARGUMENT_WRITE (R131) -/
  | anchorArgumentWrite (wc : WriteCompletion)
  /-- UNKNOWN_COMMAND (R134): a delivered code that names no command -/
  | unknownCommand (priv : Privilege) (code : BitVec 8)
  /-- REFRESH (R138) -/
  | refresh (priv : Privilege)
  /-- LOAD_POLICY (R147) -/
  | loadPolicy (priv : Privilege)
  /-- COMMIT (R153) -/
  | commit (priv : Privilege)
  /-- DISCARD (R156) -/
  | discard (priv : Privilege)
  /-- SET_CHAIN (R96), argument 2 not 0 -/
  | setChain (priv : Privilege)
  /-- SET_CHAIN_ABORT (R110), argument 2 equal to 0 -/
  | setChainAbort (priv : Privilege)
  /-- KICK (R106) -/
  | kick (priv : Privilege)
  /-- FLUSH (R108) -/
  | flush (priv : Privilege)
  /-- CAPTURE_START (R56) -/
  | captureStart (priv : Privilege)
  /-- CAPTURE_STOP_NOW (R57), argument 1 equal to 0 -/
  | captureStopNow (priv : Privilege)
  /-- CAPTURE_STOP_AT_GROUP_END (R57), argument 1 equal to 1 -/
  | captureStopAtGroupEnd (priv : Privilege)
  /-- MARK (R85) -/
  | mark (priv : Privilege)
  /-- ACK (R141) -/
  | ack (priv : Privilege)
  /-- NOTICE_ENABLE (R142) -/
  | noticeEnable (priv : Privilege)
  /-- FORCE_NOTICE (R143) -/
  | forceNotice (priv : Privilege)
  /-- CLEAR_DENIALS (R46) -/
  | clearDenials (priv : Privilege)
  /-- STATS (R48) -/
  | stats (priv : Privilege)
  /-- SET_TIMING (R89) -/
  | setTiming (priv : Privilege)
  /-- RECORD_RESET (R144) -/
  | recordReset (priv : Privilege)
  /-- CLOCK (R87): one clock on CLK -/
  | clock
  deriving DecidableEq, Repr

end Sys2Proof
end

