-- ==== Sys2Proof/Decode.lean ====
section
/-! DEFINITION. The decoder over the rows of spec/opcode_table.json that give bits. No row gives any: each row's
fields are empty (spec/98_reader.md counts 0 rows with fixed bits and 0 with fields). So no word spells an event. -/

namespace Sys2Proof

/-- The event that a word spells by the table's bits: none, since the table gives no row any bits. The command
codes of R178 are not the table's bits: they are data of a write to anchor word 0 and are decoded where the
command unit takes a delivery (R133). -/
def decodeTableWord (_nbits _w : Nat) : Option Instr := none

end Sys2Proof
end

