-- ==== Sys2Proof/Config.lean ====
section
/-! DEFINITION. What the spec fixes for the whole part (capacities and limits), and the free values: what the
spec leaves open. A free value has no body, so no proof can see what it is. -/

namespace Sys2Proof

/-- The transaction queue never holds more than 4 transactions (R27). -/
def Config.queueCapacity : Nat := 4

/-- The event FIFO holds at most 32 records (R77). -/
def Config.eventCapacity : Nat := 32

/-- The capture FIFO holds at most 1024 words (R77). -/
def Config.captureCapacity : Nat := 1024

/-- The event stream is urgent at 24 records or more (R77, R86). -/
def Config.eventUrgent : Nat := 24

/-- The issue list never holds more than 8 entries (R118). -/
def Config.issueLimit : Nat := 8

/-- The fairness run count stops at 8 (R121). -/
def Config.fairnessLimit : Nat := 8

/-- A record burst carries at most 16 words (R84, R100). -/
def Config.burstWords : Nat := 16

/-- Lost counts and denial counts stop at 65535 (R23, R83). -/
def Config.countMax : Nat := 65535

/-- The three counts of a group stop at 0xFFFF_FFFF (R62). -/
def Config.groupCountMax : Nat := 0xFFFFFFFF

/-- FREE VALUE (log entry 4): which of two effects of one event is taken first where the spec says they stand in
no order (R31, R51, R82), and which of two close reasons is taken where both conditions first hold in one event
(R101, R103). The argument is the number of such choices drawn before (`State.freeCount`). -/
opaque Config.freeChoice : Nat → Bool

end Sys2Proof
end

