-- ==== Sys2Proof/Machine/State.lean ====
section
/-! DEFINITION. The state of the MG-420 as plain data, block by block (spec 00 Block diagram), the model's fault and
refusal reasons, and the machine right after reset. -/

namespace Sys2Proof.Machine

/-! ## Names the manual uses -/

/-- Fold mode of a policy (R3). -/
inductive FoldMode where
  | fold | strict
  deriving DecidableEq, Repr

/-- Response setting of a denial (R5, R6). -/
inductive RespSetting where
  | error | quiet
  deriving DecidableEq, Repr

/-- Denial kind: the check that failed (R11). -/
inductive DenialKind where
  | format | aliased | segment | straddle | buffer | permission
  deriving DecidableEq, Repr

/-- Capture format (R6). -/
inductive CaptureFormat where
  | short | full
  deriving DecidableEq, Repr

/-- State of a transaction queue entry (R29). -/
inductive TxState where
  | denied | unsent | atMemory | held | delivering
  deriving DecidableEq, Repr

/-- Capture state (R54). -/
inductive CaptureState where
  | stopped | armed | running | stopping
  deriving DecidableEq, Repr

/-- Trigger kind (R54). -/
inductive TriggerKind where
  | immediate | onDenial | onEntry
  deriving DecidableEq, Repr

/-- Why a group closed (R64). -/
inductive GroupReason where
  | quiet | limit | stop
  deriving DecidableEq, Repr

/-- Walker state (R93). -/
inductive WalkerState where
  | idle | fetching | waiting | filling | closing | aborting | ended | faulted
  deriving DecidableEq, Repr

/-- Why a buffer closed (R93, R104). -/
inductive CloseReason where
  | full | linger | flush | abort
  deriving DecidableEq, Repr

/-- Cause of a chain fault (R98, R102, R104, R115). -/
inductive FaultCause where
  | fetchError | wrongStream | badAddress | badLength | badLink | badOwner | burstError | statusError
  deriving DecidableEq, Repr

/-- The five requesters of the memory arbiter (R119). -/
inductive Requester where
  | pass | report | event | command | capture
  deriving DecidableEq, Repr

/-- The thirteen notices (R162). -/
inductive Notice where
  | denial | memfault | eventLoss | captureLoss | eventBuffer | captureBuffer | eventStarved | captureStarved
  | chainEnd | chainFault | commandDone | captureState | forced
  deriving DecidableEq, Repr

/-- The eight report sections (R158). -/
inductive Section where
  | result | notices | denial | eventStream | captureStream | capture | policy | time
  deriving DecidableEq, Repr

/-- The result codes (R136, R178). -/
inductive Result where
  | done | busy | privilege | unknown | badarg | state | nostaged | invalid | memerr
  deriving DecidableEq, Repr

/-! ## Policy unit -/

/-- The default rule (R5). Permissions: bit 0 supervisor fetch, 1 supervisor read, 2 supervisor write, 3 user
fetch, 4 user read, 5 user write (R172). -/
structure DefaultRule where
  permissions : BitVec 6
  response    : RespSetting
  fill        : Word
  report      : Bool
  deriving DecidableEq, Repr

/-- A region entry (R6). Base and limit are granule numbers; master set bit m is master m; capture kinds: bit 0
FETCH, 1 READ, 2 WRITE (R172). -/
structure RegionEntry where
  base         : Nat
  limit        : Nat
  masters      : BitVec 8
  permissions  : BitVec 6
  response     : RespSetting
  fill         : Word
  report       : Bool
  captureKinds : BitVec 3
  format       : CaptureFormat
  /-- decimation factor, 1 to 256 -/
  factor       : Nat
  deriving DecidableEq, Repr

/-- A policy: one complete record of five parts (R1). The present entries are the list, entry k at index k; its
length is the entry count (R7). -/
structure Policy where
  /-- decode width W, 16 to 32 -/
  width           : Nat
  fold            : FoldMode
  segmentEnabled  : Bool
  segmentBoundary : Word
  defaultRule     : DefaultRule
  entries         : List RegionEntry
  deriving DecidableEq, Repr

/-- The staged table with its state; only VALID holds a policy that any block reads (R145). -/
inductive Staged where
  | empty | loading | valid (p : Policy)
  deriving DecidableEq, Repr

/-- The policy unit (R1, R22, R23, R145). -/
structure PolicyUnit where
  active      : Policy
  staged      : Staged
  commitCount : BitVec 8
  decimation  : Vector Nat 32
  slotCounts  : Vector Nat 32
  deriving DecidableEq, Repr

/-! ## Transaction queue -/

/-- What a DENY decision carries to its answer (R19, R20). -/
structure DenialTerms where
  kind     : DenialKind
  response : RespSetting
  fill     : Word
  report   : Bool
  deriving DecidableEq, Repr

/-- What a capture-eligible PASS decision carries (R20, R21). -/
structure Eligibility where
  format : CaptureFormat
  factor : Nat
  deriving DecidableEq, Repr

/-- Outcome of a decision (R20). -/
inductive Verdict where
  | pass (eligible : Option Eligibility)
  | deny (terms : DenialTerms)
  deriving DecidableEq, Repr

/-- The decision record held with the transaction (R20); entry `none` is NONE. -/
structure DecisionRecord where
  verdict   : Verdict
  timestamp : Word
  entry     : Option Nat
  deriving DecidableEq, Repr

/-- One transaction in the queue (R27). `captureLink`: the capture unit captured it; the i-th linked transaction
that memory has not completed names the i-th entry of the pending list (R65, R66; log entry 20). -/
structure QueueEntry where
  request     : Request
  decision    : DecisionRecord
  state       : TxState
  captureLink : Bool
  response    : Option MemResponse
  deriving DecidableEq, Repr

/-! ## Denial unit -/

/-- What the first-denial latch holds while FULL (R43), and what a DENIAL record repeats (R52). -/
structure DenialInfo where
  address   : Word
  kind      : DenialKind
  access    : AccessKind
  privilege : Privilege
  master    : BitVec 3
  beats     : Nat
  entry     : Option Nat
  timestamp : Word
  deriving DecidableEq, Repr

/-- The denial unit (R23, R43, R44, R45); latch `none` is EMPTY; sticky kinds with FORMAT at bit 0 (R169). -/
structure DenialUnit where
  latch        : Option DenialInfo
  more         : Bool
  sticky       : BitVec 6
  defaultCount : Nat
  deriving DecidableEq, Repr

/-! ## Capture unit -/

/-- The five trigger settings (R54). -/
structure TriggerSettings where
  kind    : TriggerKind
  entry   : Nat
  quiet   : Nat
  limit   : Nat
  oneShot : Bool
  deriving DecidableEq, Repr

/-- The open group (R62). -/
structure OpenGroup where
  number   : BitVec 8
  produced : Nat
  lost     : Nat
  skips    : Nat
  deriving DecidableEq, Repr

/-- A closed group: what the owed list holds (R70) and GROUP_END carries (R71). -/
structure ClosedGroup where
  number    : BitVec 8
  reason    : GroupReason
  timestamp : Word
  produced  : Nat
  lost      : Nat
  skips     : Nat
  deriving DecidableEq, Repr

/-- An entry of the pending list (R65). -/
structure PendingEntry where
  group     : BitVec 8
  format    : CaptureFormat
  entry     : Nat
  timestamp : Word
  address   : Word
  access    : AccessKind
  privilege : Privilege
  master    : BitVec 3
  beats     : Nat
  /-- first write beat, for FULL and WRITE -/
  firstBeat : Option Word
  voided    : Bool
  deriving DecidableEq, Repr

/-- The capture unit (R54). `quietTimer`: idle, or the ticks remaining. -/
structure CaptureUnit where
  state       : CaptureState
  trigger     : TriggerSettings
  groupNumber : BitVec 8
  openGroup   : Option OpenGroup
  quietTimer  : Option Nat
  owed        : List ClosedGroup
  pendingList : List PendingEntry
  deriving DecidableEq, Repr

/-! ## Streams and walkers -/

/-- The records of both streams (R78, R79). MARK and GAP have a form of their own in each stream. -/
inductive Record where
  /-- DENIAL (R52) -/
  | denial (info : DenialInfo) (response : RespSetting)
  /-- MEMFAULT (R35) -/
  | memfault (address : Word) (access : AccessKind) (privilege : Privilege) (master : BitVec 3) (timestamp : Word)
  /-- CHAIN_FAULT (R115) -/
  | chainFault (stream : StreamId) (cause : FaultCause) (descriptor : Word) (timestamp : Word)
  /-- COMMIT (R154) -/
  | commit (entryCount : Nat) (commitCount : BitVec 8) (timestamp : Word)
  /-- CAPTURE_STATE (R72) -/
  | captureState (old new : CaptureState) (group : BitVec 8) (timestamp : Word)
  /-- MARK in the event stream (R85) -/
  | eventMark (value : Word) (timestamp : Word)
  /-- GAP in the event stream (R81) -/
  | eventGap (lost : Nat) (saturated : Bool) (timestamp : Word)
  /-- SHORT (R67) -/
  | short (address : Word) (access : AccessKind) (privilege : Privilege) (master : BitVec 3) (beats : Nat)
      (group : BitVec 8) (stamp : BitVec 16)
  /-- FULL (R67) -/
  | full (address : Word) (access : AccessKind) (privilege : Privilege) (master : BitVec 3) (beats : Nat)
      (group : BitVec 8) (entry : Nat) (timestamp : Word) (data : Word) (memoryError : Bool)
  /-- GROUP_END (R71) -/
  | groupEnd (group : ClosedGroup)
  /-- MARK in the capture stream (R85) -/
  | captureMark (value : Word) (stamp : BitVec 16)
  /-- GAP in the capture stream (R81) -/
  | captureGap (lost : Nat) (saturated : Bool) (timestamp : Word)
  deriving DecidableEq, Repr

/-- A stream's FIFO (oldest record first), lost count and saturation flag (R77). -/
structure RecordStream where
  fifo      : List Record
  lost      : Nat
  saturated : Bool
  deriving DecidableEq, Repr

/-- Words 0 to 2 of the last descriptor fetched with owner PART, by their fields (R93, R173). -/
structure DescriptorCopy where
  buffer : Word
  length : Nat
  link   : Word
  last   : Bool
  stream : StreamId
  deriving DecidableEq, Repr

/-- A walker's transaction in flight (R95); a burst holds the records it carries (R84). -/
inductive WalkerTx where
  | fetch | burst (records : List Record) | status
  deriving DecidableEq, Repr

/-- A walker (R93). -/
structure Walker where
  state       : WalkerState
  current     : Word
  copy        : Option DescriptorCopy
  fillOffset  : Nat
  gapPresent  : Bool
  lingerAge   : Nat
  closeReason : Option CloseReason
  inFlight    : Option WalkerTx
  flushCount  : Option Nat
  abortError  : Bool
  deriving DecidableEq, Repr

/-! ## Memory arbiter -/

/-- An entry of the issue list (R118). -/
structure IssueEntry where
  requester : Requester
  isWrite   : Bool
  beats     : Nat
  voided    : Bool
  deriving DecidableEq, Repr

/-- The memory arbiter (R118). -/
structure Arbiter where
  issued   : List IssueEntry
  fairness : Nat
  drain    : Nat
  deriving DecidableEq, Repr

/-! ## Command unit, loader and statistics engine -/

/-- The running command (R130). -/
structure RunningCommand where
  code   : BitVec 8
  number : BitVec 8
  stream : Option StreamId
  deriving DecidableEq, Repr

/-- The result word (R136) by the fields of anchor word 8 (R177). Result code 0 is never written (R178). -/
structure ResultWord where
  code       : BitVec 8
  result     : BitVec 4
  fieldIndex : BitVec 12
  number     : BitVec 8
  deriving DecidableEq, Repr

/-- The statistics engine while STATS runs (R48, R49): its area, the snapshot, and how many of its two bursts have
been granted and answered. -/
structure StatsEngine where
  area      : Word
  slots     : Vector Nat 32
  default   : Nat
  saturated : Bool
  granted   : Nat
  answered  : Nat
  error     : Bool
  deriving DecidableEq, Repr

/-- What the loader has taken from an image once its header has passed: the entry count, and the policy with the
entries read so far (R149, R150). -/
structure LoadedPart where
  count  : Nat
  policy : Policy
  deriving DecidableEq, Repr

/-- The policy loader while a load runs (R148): `part` is absent until the header has been read. -/
structure Loader where
  image    : Word
  part     : Option LoadedPart
  inFlight : Bool
  deriving DecidableEq, Repr

/-- The command unit (R130). It is BUSY exactly while a running command is present. -/
structure CommandUnit where
  running : Option RunningCommand
  /-- arguments 1 to 7, argument i at index i - 1 -/
  shadow  : Vector Word 7
  count   : BitVec 8
  result  : ResultWord
  stats   : Option StatsEngine
  loader  : Option Loader
  deriving DecidableEq, Repr

/-! ## Report writer, notice unit, time base -/

/-- The section write in flight: its section and, for the notices section, the raw set it carried (R160). -/
structure ReportWrite where
  section_ : Section
  raw      : Option (BitVec 13)
  deriving DecidableEq, Repr

/-- The report writer (R159, R160, R161); dirty flag of section i at bit i. -/
structure ReportWriter where
  dirty    : BitVec 8
  inFlight : Option ReportWrite
  fault    : Bool
  deriving DecidableEq, Repr

/-- The notice unit and the NOTICE line (R162); a notice's bit is that of R169. -/
structure NoticeUnit where
  raw       : BitVec 13
  enable    : BitVec 13
  published : BitVec 13
  line      : Bool
  deriving DecidableEq, Repr

/-- The time base (R87) and the values SET_TIMING sets with the divider (R89). -/
structure TimeBase where
  tick          : Word
  divider       : Nat
  prescale      : Nat
  eventLinger   : Nat
  captureLinger : Nat
  captureUrgent : Nat
  deriving DecidableEq, Repr

/-! ## The machine -/

/-- The state of the part. `memoryPort`, `processorPort` and `freeCount` are the model's own (log entries 3, 4):
the transaction last issued, the response last handed over whole, and how many free choices have been drawn.
`pending` is the queue of events that wait, first in first out. -/
structure State where
  anchorSel     : BitVec 4
  resetAsserted : Bool
  queue         : List QueueEntry
  policy        : PolicyUnit
  denial        : DenialUnit
  capture       : CaptureUnit
  eventStream   : RecordStream
  captureStream : RecordStream
  eventWalker   : Walker
  captureWalker : Walker
  arbiter       : Arbiter
  command       : CommandUnit
  report        : ReportWriter
  notices       : NoticeUnit
  time          : TimeBase
  memoryPort    : Option Request
  processorPort : Option MemResponse
  freeCount     : Nat
  pending       : List Instr
  deriving DecidableEq, Repr

/-- Why a step can stop with a fault. -/
inductive Fault where
  /-- Raised by PASS_MEMORY_COMPLETION, DESCRIPTOR_FETCH_COMPLETION and POLICY_READ_COMPLETION when the memory
  partner answers a read with another number of data beats than was issued, which R26 forbids it. Safe: the model
  stops where the spec gives the part no behaviour (log entry 6). -/
  | memoryBeats
  deriving DecidableEq, Repr

/-- Why a step can be refused. -/
inductive Refusal where
  /-- Raised by `exec` for a row that has no meaning yet. Safe. -/
  | notModelled (mnemonic : String)
  /-- Raised by DECISION_POINT, ANCHOR_ARGUMENT_WRITE and UNKNOWN_COMMAND when the operands are none that R24, R36
  or R134 stage 3 allow: no sender can bring the part such an event. Safe (log entry 7). -/
  | illFormed
  deriving DecidableEq, Repr

/-! ## Reset values -/

/-- The reset policy that START_MODE selects (R8). -/
def resetPolicy (mode : StartMode) : Policy :=
  { width := 32, fold := .fold, segmentEnabled := false, segmentBoundary := 0,
    defaultRule :=
      { permissions := match mode with
          | .openStart => 0b111111#6
          | .closedStart => 0b000111#6
        response := .error, fill := 0,
        report := match mode with
          | .openStart => false
          | .closedStart => true },
    entries := [] }

/-- A walker after RESET and RECORD_RESET (R93). -/
def Walker.reset : Walker :=
  { state := .idle, current := 0, copy := none, fillOffset := 0, gapPresent := false, lingerAge := 0,
    closeReason := none, inFlight := none, flushCount := none, abortError := false }

/-- A stream after RESET and RECORD_RESET (R77). -/
def RecordStream.reset : RecordStream := { fifo := [], lost := 0, saturated := false }

/-- The reset values of all the part's state, for straps as sampled and a drain count (R8, R27, R38, R43 to R45,
R54, R77, R87, R93, R118, R130, R145, R159, R162). The result word's 0 and the empty output fields are the
model's (log entries 2, 3). -/
def State.resetValues (anchorSel : BitVec 4) (mode : StartMode) (drain : Nat) (asserted : Bool) : State :=
  { anchorSel := anchorSel
    resetAsserted := asserted
    queue := []
    policy := { active := resetPolicy mode, staged := .empty, commitCount := 0,
                decimation := Vector.replicate 32 1, slotCounts := Vector.replicate 32 0 }
    denial := { latch := none, more := false, sticky := 0, defaultCount := 0 }
    capture := { state := .stopped,
                 trigger := { kind := .immediate, entry := 0, quiet := 0, limit := 0, oneShot := false },
                 groupNumber := 0, openGroup := none, quietTimer := none, owed := [], pendingList := [] }
    eventStream := .reset
    captureStream := .reset
    eventWalker := .reset
    captureWalker := .reset
    arbiter := { issued := [], fairness := 0, drain := drain }
    command := { running := none, shadow := Vector.replicate 7 0, count := 0,
                 result := { code := 0, result := 0, fieldIndex := 0, number := 0 },
                 stats := none, loader := none }
    report := { dirty := 0, inFlight := none, fault := false }
    notices := { raw := 0, enable := 0, published := 0, line := false }
    time := { tick := 0, divider := 1, prescale := 0, eventLinger := 0, captureLinger := 0, captureUrgent := 768 }
    memoryPort := none
    processorPort := none
    freeCount := 0
    pending := [] }

/-- The machine right after reset: RESET released, nothing outstanding at memory, ANCHOR_SEL = 0x1 and
START_MODE = CLOSED as in the manual's bring-up (12.1). The straps are inputs: DESIGN CHOICE, log entry 1. -/
def State.reset : State := State.resetValues 0x1 .closedStart 0 false

end Sys2Proof.Machine
end

