-- ==== Sys2Proof/Machine/Ops.lean ====
section
/-! DEFINITION. The shared operations: dirty flags, notices, results, streams and the loss account, walkers, free
order, the issue list. Every unit of the part writes the others' state only through these. -/

namespace Sys2Proof.Machine

/-! ## Report sections and notices -/

/-- Section numbers of R158. -/
def Section.index : Section → Nat
  | .result => 0 | .notices => 1 | .denial => 2 | .eventStream => 3
  | .captureStream => 4 | .capture => 5 | .policy => 6 | .time => 7

/-- The sections in ascending number (R158, R160). -/
def Section.all : List Section :=
  [.result, .notices, .denial, .eventStream, .captureStream, .capture, .policy, .time]

/-- The section's bit in the dirty flags. -/
def Section.mask (c : Section) : BitVec 8 := 1#8 <<< c.index

/-- Notice bits of R169. -/
def Notice.bit : Notice → Nat
  | .denial => 0 | .memfault => 1 | .eventLoss => 2 | .captureLoss => 3 | .eventBuffer => 4 | .captureBuffer => 5
  | .eventStarved => 6 | .captureStarved => 7 | .chainEnd => 8 | .chainFault => 9 | .commandDone => 10
  | .captureState => 11 | .forced => 12

/-- The notice as a one-member set (R169). -/
def Notice.mask (n : Notice) : BitVec 13 := 1#13 <<< n.bit

/-- Is the section's dirty flag set (R159)? -/
def State.isDirty (s : State) (c : Section) : Bool := s.report.dirty.getLsbD c.index

/-- Set a section's dirty flag (R159). -/
def State.markDirty (s : State) (c : Section) : State :=
  { s with report := { s.report with dirty := s.report.dirty ||| c.mask } }

/-- Mark a section dirty only if its content changed. -/
def State.markDirtyIf (s : State) (changed : Bool) (c : Section) : State :=
  if changed then s.markDirty c else s

/-- Is the notice in the raw set? -/
def State.isRaised (s : State) (n : Notice) : Bool := s.notices.raw.getLsbD n.bit

/-- Raise a notice: add it to the raw set, and mark the notices section dirty if it was not there (R162). -/
def State.raise (s : State) (n : Notice) : State :=
  if s.isRaised n then s
  else { s with notices := { s.notices with raw := s.notices.raw ||| n.mask } }.markDirty .notices

/-! ## Streams -/

/-- The stream's record FIFO and lost count. -/
def State.stream (s : State) : StreamId → RecordStream
  | .event => s.eventStream
  | .capture => s.captureStream

/-- Replace a stream. -/
def State.setStream (s : State) (st : StreamId) (x : RecordStream) : State :=
  match st with
  | .event => { s with eventStream := x }
  | .capture => { s with captureStream := x }

/-- The stream's walker. -/
def State.walker (s : State) : StreamId → Walker
  | .event => s.eventWalker
  | .capture => s.captureWalker

/-- Replace a walker. -/
def State.setWalker (s : State) (st : StreamId) (w : Walker) : State :=
  match st with
  | .event => { s with eventWalker := w }
  | .capture => { s with captureWalker := w }

/-- The stream's report section (R158). -/
def StreamId.reportSection : StreamId → Section
  | .event => .eventStream
  | .capture => .captureStream

/-- The stream's loss notice (R83). -/
def StreamId.lossNotice : StreamId → Notice
  | .event => .eventLoss
  | .capture => .captureLoss

/-- The stream's buffer notice (R104). -/
def StreamId.bufferNotice : StreamId → Notice
  | .event => .eventBuffer
  | .capture => .captureBuffer

/-- The stream's starved notice (R99). -/
def StreamId.starvedNotice : StreamId → Notice
  | .event => .eventStarved
  | .capture => .captureStarved

/-- The name under which the stream's walker requests the arbiter (R95). -/
def StreamId.requester : StreamId → Requester
  | .event => .event
  | .capture => .capture

/-- Words a record takes in memory (R78, R79). -/
def Record.words : Record → Nat
  | .denial .. => 4 | .memfault .. => 4 | .chainFault .. => 4 | .commit .. => 4 | .captureState .. => 4
  | .eventMark .. => 4 | .eventGap .. => 4
  | .short .. => 2 | .full .. => 4 | .groupEnd .. => 4 | .captureMark .. => 2 | .captureGap .. => 2

/-- Is the record a GAP (R81)? -/
def Record.isGap : Record → Bool
  | .eventGap .. => true
  | .captureGap .. => true
  | .denial .. => false | .memfault .. => false | .chainFault .. => false | .commit .. => false
  | .captureState .. => false | .eventMark .. => false
  | .short .. => false | .full .. => false | .groupEnd .. => false | .captureMark .. => false

/-- A record's size in its FIFO: one place in the event stream, its words in the capture stream (R80). -/
def StreamId.size : StreamId → Record → Nat
  | .event, _ => 1
  | .capture, r => r.words

/-- Capacity of the FIFO in the units of its occupancy (R77). -/
def StreamId.capacity : StreamId → Nat
  | .event => Config.eventCapacity
  | .capture => Config.captureCapacity

/-- Size of a GAP record in the FIFO (R80). -/
def StreamId.gapSize : StreamId → Nat
  | .event => 1
  | .capture => 2

/-- The GAP record a stream makes (R81). -/
def StreamId.gapRecord (st : StreamId) (lost : Nat) (saturated : Bool) (tick : Word) : Record :=
  match st with
  | .event => .eventGap lost saturated tick
  | .capture => .captureGap lost saturated tick

/-- Occupancy of a FIFO: records for the event stream, words for the capture stream (R77). -/
def StreamId.occupancy (st : StreamId) (fifo : List Record) : Nat := (fifo.map st.size).sum

/-- Free space: the capacity less the occupancy (R77). -/
def State.freeSpace (s : State) (st : StreamId) : Nat := st.capacity - st.occupancy (s.stream st).fifo

/-- Count k records lost (R83): the lost count rises by k, stopping at 65535; the saturation flag is set when the
full number could not be added; the loss notice is raised; the section is marked dirty if the count changed (R91).
Nothing happens for k = 0. -/
def State.countLost (s : State) (st : StreamId) (k : Nat) : State :=
  if k = 0 then s
  else
    let x := s.stream st
    let n := min Config.countMax (x.lost + k)
    let full := decide (Config.countMax < x.lost + k)
    ((s.setStream st { x with lost := n, saturated := x.saturated || full }).raise st.lossNotice).markDirtyIf
      (n != x.lost) st.reportSection

/-- Does the stream take a record offered now (R80)? -/
def State.accepts (s : State) (st : StreamId) (r : Record) : Bool :=
  if (s.stream st).lost = 0 then st.size r ≤ s.freeSpace st
  else st.gapSize + st.size r ≤ s.freeSpace st

/-- Offer one record to a stream (R80): it enters at the tail, or a GAP and then the record enter and the lost
count returns to 0, or it is lost and counted (R83). -/
def State.offer (s : State) (st : StreamId) (r : Record) : State :=
  let x := s.stream st
  if s.accepts st r then
    if x.lost = 0 then s.setStream st { x with fifo := x.fifo ++ [r] }
    else
      (s.setStream st
        { fifo := x.fifo ++ [st.gapRecord x.lost x.saturated s.time.tick, r], lost := 0, saturated := false }).markDirty
          st.reportSection
  else s.countLost st 1

/-! ## Results -/

/-- Result codes of R178. -/
def Result.code : Result → BitVec 4
  | .done => 1 | .busy => 2 | .privilege => 3 | .unknown => 4 | .badarg => 5 | .state => 6 | .nostaged => 7
  | .invalid => 8 | .memerr => 9

/-- Set the result word, mark the result section dirty and raise COMMAND_DONE (R136). -/
def State.setResult (s : State) (code : BitVec 8) (r : Result) (fieldIndex : Nat) (number : BitVec 8) : State :=
  let word : ResultWord :=
    { code := code, result := r.code, fieldIndex := BitVec.ofNat 12 fieldIndex, number := number }
  ({ s with command := { s.command with result := word } }.markDirty .result).raise .commandDone

/-- A lasting command's owner hands back its result (R135): the unit writes it with the number given at delivery
and returns to IDLE. A walker's completion is taken only if the running command records its stream (R140); the
loader and the statistics engine are `none`. -/
def State.finish (s : State) (who : Option StreamId) (r : Result) (fieldIndex : Nat) : State :=
  match s.command.running with
  | some c =>
    if c.stream = who then
      { s with command := { s.command with running := none } }.setResult c.code r fieldIndex c.number
    else s
  | none => s

/-! ## Effects in no stated order -/

/-- Take two effects of one event in the order that a flag gives. -/
def inOrder (swap : Bool) (f g : State → State) (s : State) : State := if swap then f (g s) else g (f s)

/-- Draw the next free choice (log entry 4). -/
def State.choice (s : State) : Bool := Config.freeChoice s.freeCount

/-- The state after k free choices have been drawn. -/
def State.drawn (s : State) (k : Nat) : State := { s with freeCount := s.freeCount + k }

/-- Two effects of one event that the spec leaves in no order: a free choice gives the order (R82). -/
def inFreeOrder (f g : State → State) (s : State) : State := inOrder s.choice f g (s.drawn 1)

/-! ## Lists -/

/-- Replace the first member that satisfies p. -/
def updateFirst {α : Type} (p : α → Bool) (f : α → α) : List α → List α
  | [] => []
  | a :: as => if p a then f a :: as else a :: updateFirst p f as

/-! ## The issue list -/

/-- Issue a transaction on the memory port: it goes out, and an entry joins the tail of the issue list (R122). -/
def State.issue (s : State) (r : Requester) (req : Request) : State :=
  { s with
    arbiter := { s.arbiter with
      issued := s.arbiter.issued ++
        [{ requester := r, isWrite := decide (req.kind = .write), beats := req.beats, voided := false }] }
    memoryPort := some req }

/-- Remove the head of the issue list at its answer (R123). -/
def State.popIssued (s : State) : State :=
  { s with arbiter := { s.arbiter with issued := s.arbiter.issued.tail } }

/-- The head of the issue list to which an answer belongs, while the drain count is 0 and the head is not void
(R123). -/
def State.answering (s : State) : Option IssueEntry :=
  if s.arbiter.drain = 0 then
    match s.arbiter.issued with
    | e :: _ => if e.voided then none else some e
    | [] => none
  else none

/-- An answer is whole: a write's at its response, a read's at the data beat whose number is its beat count
(R123). -/
def IssueEntry.whole (e : IssueEntry) (ans : MemResponse) : Bool := e.isWrite || ans.data.length == e.beats

end Sys2Proof.Machine
end

