-- ==== Sys2Proof/Machine/Operands.lean ====
section
/-! DEFINITION. Operand forms: the geometry of a request (R2, R10), the fields of a policy (R5, R6, R18), the
argument words of commands (R132, R170, R178) and the anchor block's addresses (R128). -/

namespace Sys2Proof.Machine

/-! ## Addresses -/

/-- An address folded to W bits: modulo 2^W (R2). -/
def foldAddress (width : Nat) (a : Word) : Nat := a.toNat % 2 ^ width

/-- The folded first byte F (R10). -/
def Request.firstByte (r : Request) (width : Nat) : Nat := foldAddress width r.address

/-- The folded last byte L = F + 4n - 1 (R10). -/
def Request.lastByte (r : Request) (width : Nat) : Nat := r.firstByte width + 4 * r.beats - 1

/-- The granule of a byte: 64 bytes each (R6, R10). -/
def granule (byte : Nat) : Nat := byte / 64

/-- The address of beat i of a burst (R24). -/
def Request.beatAddress (r : Request) (i : Nat) : Word := r.address + BitVec.ofNat 32 (4 * i)

/-! ## Policy fields -/

/-- Bit of a permission flag, chosen by privilege and access kind (R18, R172). -/
def permissionBit : Privilege → AccessKind → Nat
  | .supervisor, .fetch => 0 | .supervisor, .read => 1 | .supervisor, .write => 2
  | .user, .fetch => 3 | .user, .read => 4 | .user, .write => 5

/-- Is the governing permission flag set (R18)? -/
def permits (permissions : BitVec 6) (r : Request) : Bool := permissions.getLsbD (permissionBit r.privilege r.kind)

/-- Bit of an access kind in a capture-kind set (R172). -/
def AccessKind.captureBit : AccessKind → Nat
  | .fetch => 0 | .read => 1 | .write => 2

/-- Does the entry capture accesses of this kind (R21)? -/
def RegionEntry.captures (e : RegionEntry) (k : AccessKind) : Bool := e.captureKinds.getLsbD k.captureBit

/-- Does the entry match a request: its master is in the set, and its first granule in the range (R15)? -/
def RegionEntry.matchesRequest (e : RegionEntry) (master : BitVec 3) (first : Nat) : Bool :=
  e.masters.getLsbD master.toNat && decide (e.base ≤ first) && decide (first ≤ e.limit)

/-- Deciding entry: the first present entry, in ascending index, that matches (R15). -/
def Policy.lookup (p : Policy) (r : Request) : Option Nat :=
  p.entries.findIdx? (fun e => e.matchesRequest r.master (granule (r.firstByte p.width)))

/-! ## Anchor block -/

/-- The unfolded anchor base: ANCHOR_SEL × 0x1000_0000 + 0x0000_FF00 (R128). -/
def anchorBase (anchorSel : BitVec 4) : Word := BitVec.ofNat 32 (anchorSel.toNat * 0x10000000 + 0xFF00)

/-- Address of anchor word i (R128). -/
def anchorAddress (anchorSel : BitVec 4) (i : Nat) : Word := anchorBase anchorSel + BitVec.ofNat 32 (4 * i)

/-- Does a completed beat match anchor word i: folded word address equal to folded base + 4i (R128)? -/
def CompletedBeat.matchesAnchor (b : CompletedBeat) (width : Nat) (anchorSel : BitVec 4) (i : Nat) : Bool :=
  decide (b.address.toNat = foldAddress width (anchorBase anchorSel) + 4 * i)

/-! ## Command arguments -/

/-- Argument i of a command, 1 to 7, from the shadow (R132). -/
def State.arg (s : State) (i : Nat) : Word := s.command.shadow[i - 1]?.getD 0

/-- A stream argument: 0 or 1, judged whole (R170, R178). -/
def streamArg (w : Word) : Option StreamId :=
  if w = 0 then some .event else if w = 1 then some .capture else none

/-- A trigger kind argument (R169, R178). -/
def triggerArg (w : Word) : Option TriggerKind :=
  if w = 0 then some .immediate else if w = 1 then some .onDenial else if w = 2 then some .onEntry else none

/-- A notice mask argument: no bit from 13 to 31 may be set (R141, R142, R178). -/
def noticeMaskArg (w : Word) : Option (BitVec 13) :=
  if w.toNat < 2 ^ 13 then some (w.setWidth 13) else none

/-- Merge a write beat into a word: a byte takes the data where its enable is set (R131, R169). -/
def mergeBytes (old : Word) (enables : BitVec 4) (data : Word) : Word :=
  let byte (i : Nat) : BitVec 8 :=
    if enables.getLsbD i then data.extractLsb' (8 * i) 8 else old.extractLsb' (8 * i) 8
  (byte 3 ++ byte 2 ++ byte 1 ++ byte 0 : BitVec 32)

end Sys2Proof.Machine
end

