-- ==== Sys2Proof/Machine/Flags.lean ====
section
/-! DEFINITION. The flags and conditions that the part computes from its state: urgency, the notice line, the
walkers' close conditions and requests, the current buffer. None of these is held; each is judged when used. -/

namespace Sys2Proof.Machine

/-- The stream's urgent level (R77, R86). -/
def State.urgentLevel (s : State) : StreamId → Nat
  | .event => Config.eventUrgent
  | .capture => s.time.captureUrgent

/-- A stream is urgent while its occupancy stands at or above its urgent level (R86). -/
def State.urgent (s : State) (st : StreamId) : Bool :=
  decide (s.urgentLevel st ≤ st.occupancy (s.stream st).fifo)

/-- The level of the notice line: high exactly when the published set and the enable mask share a notice (R164). -/
def noticeLevel (published enable : BitVec 13) : Bool := published &&& enable != 0

/-- The command unit is BUSY while a running command is present (R130). -/
def State.busy (s : State) : Bool := s.command.running.isSome

/-- The stream's linger setting (R89). -/
def State.lingerSetting (s : State) : StreamId → Nat
  | .event => s.time.eventLinger
  | .capture => s.time.captureLinger

/-- The buffer a walker has at present: while FILLING or CLOSING, and while ABORTING with a descriptor copy, which is
ABORTING entered from FILLING or CLOSING (R17, R93). -/
def Walker.currentBuffer (w : Walker) : Option DescriptorCopy :=
  match w.state with
  | .filling => w.copy
  | .closing => w.copy
  | .aborting => w.copy
  | .idle => none | .fetching => none | .waiting => none | .ended => none | .faulted => none

/-- Remaining space of the buffer being filled, in bytes (R100). -/
def Walker.remaining (w : Walker) : Nat :=
  match w.copy with
  | some c => c.length - w.fillOffset
  | none => 0

/-- Does a record fit the remaining space (R100)? -/
def Walker.fits (w : Walker) (r : Record) : Bool := decide (4 * r.words ≤ w.remaining)

/-- The walker is FILLING with no transaction in flight: the moment at which it may close (R101, R103, R108). -/
def Walker.atRest (w : Walker) : Bool := decide (w.state = .filling) && w.inFlight.isNone

/-- R101's FULL condition: no space remains, or the head record is larger than what remains. -/
def Walker.fullCondition (w : Walker) (fifo : List Record) : Bool :=
  decide (w.remaining = 0) ||
    (match fifo with
     | r :: _ => !w.fits r
     | [] => false)

/-- R103's LINGER condition, but for the walker being at rest. -/
def Walker.lingerCondition (w : Walker) (setting : Nat) : Bool :=
  decide (0 < w.fillOffset) && decide (setting ≠ 0) && decide (setting ≤ w.lingerAge)

/-- R108: the flush count has reached 0. -/
def Walker.flushDone (w : Walker) : Bool := decide (w.flushCount = some 0)

/-- A walker at rest with none of the close and flush conditions holding: what every event leaves behind. -/
def Walker.settled (w : Walker) (fifo : List Record) (linger : Nat) : Bool :=
  !(w.atRest && (w.flushDone || w.fullCondition fifo || w.lingerCondition linger))

/-- Both walkers are settled. -/
def State.settled (s : State) : Bool :=
  s.eventWalker.settled s.eventStream.fifo s.time.eventLinger &&
    s.captureWalker.settled s.captureStream.fifo s.time.captureLinger

/-- The clock that would come now reaches the divider (R87). -/
def State.advanceDue (s : State) : Bool := decide (s.time.divider ≤ s.time.prescale + 1)

/-- The quiet timer would reach 0 at an advance (R63). -/
def State.quietDue (s : State) : Bool :=
  match s.capture.quietTimer with
  | some n => decide (n ≤ 1)
  | none => false

end Sys2Proof.Machine
end

