-- ==== Sys2Proof/Machine/Formats.lean ====
section
/-! DEFINITION. The layouts of chapter 11: codes (R169), descriptors (R173), records (R174 to R176), the status word
(R104, R173), the report sections (R158, R177), the STATS area (R179) and the policy image (R172). Words are written
as concatenations, the most significant field first, so that a layout's widths add up to 32 or it does not compile;
unassigned bits are written 0 (R171). -/

namespace Sys2Proof.Machine

/-! ## Codes (R169, R174) -/

/-- Access kind code. -/
def AccessKind.code : AccessKind → BitVec 2
  | .fetch => 0 | .read => 1 | .write => 2

/-- Privilege code. -/
def Privilege.code : Privilege → BitVec 1
  | .supervisor => 0 | .user => 1

/-- Response setting code. -/
def RespSetting.code : RespSetting → BitVec 1
  | .error => 0 | .quiet => 1

/-- Denial kind code. -/
def DenialKind.code : DenialKind → BitVec 3
  | .format => 1 | .aliased => 2 | .segment => 3 | .straddle => 4 | .buffer => 5 | .permission => 6

/-- Bit of a denial kind in a sticky kind set: FORMAT at the lowest. -/
def DenialKind.stickyBit : DenialKind → Nat
  | .format => 0 | .aliased => 1 | .segment => 2 | .straddle => 3 | .buffer => 4 | .permission => 5

/-- Capture state code. -/
def CaptureState.code : CaptureState → BitVec 2
  | .stopped => 0 | .armed => 1 | .running => 2 | .stopping => 3

/-- Walker state code, in the 4 bits of R177. -/
def WalkerState.code : WalkerState → BitVec 4
  | .idle => 0 | .fetching => 1 | .waiting => 2 | .filling => 3 | .closing => 4 | .aborting => 5 | .ended => 6
  | .faulted => 7

/-- Staged state code. -/
def Staged.code : Staged → BitVec 2
  | .empty => 0 | .loading => 1 | .valid _ => 2

/-- Fold mode code, in the 2 bits of R172 and R177. -/
def FoldMode.code : FoldMode → BitVec 2
  | .fold => 0 | .strict => 1

/-- Group close reason code. -/
def GroupReason.code : GroupReason → BitVec 2
  | .quiet => 1 | .limit => 2 | .stop => 3

/-- Buffer close reason code. -/
def CloseReason.code : CloseReason → BitVec 2
  | .full => 0 | .linger => 1 | .flush => 2 | .abort => 3

/-- Trigger kind code. -/
def TriggerKind.code : TriggerKind → BitVec 2
  | .immediate => 0 | .onDenial => 1 | .onEntry => 2

/-- Chain fault cause code, in the 4 bits of R175. -/
def FaultCause.code : FaultCause → BitVec 4
  | .fetchError => 1 | .wrongStream => 2 | .badAddress => 3 | .badLength => 4 | .badLink => 5 | .badOwner => 6
  | .burstError => 7 | .statusError => 8

/-- Stream number (R77). -/
def StreamId.code : StreamId → BitVec 1
  | .event => 0 | .capture => 1

/-- Beats are coded as the count minus 1. -/
def beatsCode (n : Nat) : BitVec 4 := BitVec.ofNat 4 (n - 1)

/-- A deciding entry: its index, 0 for NONE (R171). -/
def entryIndex : Option Nat → BitVec 5
  | some k => BitVec.ofNat 5 k
  | none => 0

/-- The NONE flag beside a deciding entry (R171). -/
def entryNone (e : Option Nat) : BitVec 1 := BitVec.ofBool e.isNone

/-! ## Records -/

/-- First word of a record other than SHORT: 3 in bits 1 and 0, the kind code in bits 7 to 2 (R174). -/
def recordHead (kind : BitVec 6) (fields : BitVec 24) : Word := (fields ++ kind ++ 3#2 : BitVec 32)

/-- Skip count as carried: up to 16383 (R176). -/
def skipField (skips : Nat) : BitVec 14 := BitVec.ofNat 14 (min 16383 skips)

/-- The words of a record in memory (R174, R175, R176). -/
def Record.encode : Record → List Word
  | .denial i resp =>
    [recordHead 0x01
        (0#4 ++ resp.code ++ entryNone i.entry ++ entryIndex i.entry ++ beatsCode i.beats ++ i.master ++
          i.privilege.code ++ i.access.code ++ i.kind.code),
      i.address, i.timestamp, 0]
  | .memfault address access privilege master timestamp =>
    [recordHead 0x02 (0#18 ++ master ++ privilege.code ++ access.code), address, timestamp, 0]
  | .chainFault stream cause descriptor timestamp =>
    [recordHead 0x03 (0#19 ++ cause.code ++ stream.code), descriptor, timestamp, 0]
  | .commit entryCount commitCount timestamp =>
    [recordHead 0x04 (0#10 ++ commitCount ++ BitVec.ofNat 6 entryCount), 0, timestamp, 0]
  | .captureState old new group timestamp =>
    [recordHead 0x05 (0#12 ++ group ++ new.code ++ old.code), 0, timestamp, 0]
  | .eventMark value timestamp => [recordHead 0x06 0, value, timestamp, 0]
  | .eventGap lost saturated timestamp =>
    [recordHead 0x07 (0#7 ++ BitVec.ofBool saturated ++ BitVec.ofNat 16 lost), 0, timestamp, 0]
  | .short address access privilege master beats group stamp =>
    [(address.extractLsb' 2 30 ++ access.code : BitVec 32),
      (stamp ++ group ++ beatsCode beats ++ master ++ privilege.code : BitVec 32)]
  | .full address access privilege master beats group entry timestamp data memoryError =>
    [recordHead 0x08
        (BitVec.ofBool memoryError ++ BitVec.ofNat 5 entry ++ group ++ beatsCode beats ++ master ++ privilege.code ++
          access.code),
      address, timestamp, data]
  | .groupEnd g =>
    [recordHead 0x09 (skipField g.skips ++ g.reason.code ++ g.number),
      BitVec.ofNat 32 g.produced, BitVec.ofNat 32 g.lost, g.timestamp]
  | .captureMark value stamp => [recordHead 0x06 (stamp ++ 0#8), value]
  | .captureGap lost saturated timestamp =>
    [recordHead 0x07 (0#7 ++ BitVec.ofBool saturated ++ BitVec.ofNat 16 lost), timestamp]

/-! ## Descriptors -/

/-- STREAM flag of a descriptor's word 2 (R173). -/
def descriptorStream (w2 : Word) : StreamId := if w2.getLsbD 1 then .capture else .event

/-- LAST flag of a descriptor's word 2 (R173). -/
def descriptorLast (w2 : Word) : Bool := w2.getLsbD 0

/-- Link address: word 2 with bits 1 and 0 cleared (R173). -/
def descriptorLink (w2 : Word) : Word := (w2.extractLsb' 2 30 ++ 0#2 : BitVec 32)

/-- Owner of a descriptor (R169): `some true` PART, `some false` SOFTWARE, `none` no owner. -/
def descriptorOwnedByPart (w3 : Word) : Option Bool :=
  if w3.extractLsb' 0 2 = 1 then some true else if w3.extractLsb' 0 2 = 2 then some false else none

/-- The copy a walker keeps of words 0 to 2 (R99, R173). -/
def descriptorCopy (w0 w1 w2 : Word) : DescriptorCopy :=
  { buffer := w0, length := w1.toNat, link := descriptorLink w2, last := descriptorLast w2,
    stream := descriptorStream w2 }

/-- The status word of a close: owner SOFTWARE, reason, GAP-present, filled length (R104, R173). -/
def statusWord (reason : CloseReason) (gapPresent : Bool) (filled : Nat) : Word :=
  (0#3 ++ BitVec.ofNat 21 filled ++ 0#3 ++ BitVec.ofBool gapPresent ++ reason.code ++ 2#2 : BitVec 32)

/-! ## Report sections -/

/-- The result word as anchor word 8 (R177). -/
def ResultWord.encode (r : ResultWord) : Word := (r.number ++ r.fieldIndex ++ r.result ++ r.code : BitVec 32)

/-- Anchor words 12 to 15: the denial section; an EMPTY latch has every latch field 0 (R171, R177). -/
def DenialUnit.words (d : DenialUnit) : List Word :=
  match d.latch with
  | some i =>
    [(0#5 ++ d.sticky ++ BitVec.ofBool d.more ++ entryNone i.entry ++ entryIndex i.entry ++ beatsCode i.beats ++
        i.master ++ i.privilege.code ++ i.access.code ++ i.kind.code ++ 1#1 : BitVec 32),
      i.address, i.timestamp, 0]
  | none => [(0#5 ++ d.sticky ++ BitVec.ofBool d.more ++ 0#20 : BitVec 32), 0, 0, 0]

/-- Anchor words 16 to 19 or 20 to 23: a stream's section (R91, R177). -/
def State.streamWords (s : State) (st : StreamId) : List Word :=
  let w := s.walker st
  let x := s.stream st
  [(BitVec.ofBool (s.urgent st) ++ 0#4 ++ BitVec.ofNat 11 (st.occupancy x.fifo) ++ 0#12 ++ w.state.code : BitVec 32),
    w.current, BitVec.ofNat 32 w.fillOffset,
    (0#15 ++ BitVec.ofBool x.saturated ++ BitVec.ofNat 16 x.lost : BitVec 32)]

/-- Anchor words 24 to 27: the capture section (R73, R177). -/
def CaptureUnit.words (c : CaptureUnit) : List Word :=
  [(0#8 ++ BitVec.ofBool c.trigger.oneShot ++ BitVec.ofNat 5 c.trigger.entry ++ c.trigger.kind.code ++ c.groupNumber ++
      0#6 ++ c.state.code : BitVec 32),
    (match c.openGroup with
     | some g => BitVec.ofNat 32 g.produced
     | none => 0),
    (0#16 ++ BitVec.ofNat 16 c.trigger.quiet : BitVec 32),
    (0#19 ++ BitVec.ofNat 13 c.trigger.limit : BitVec 32)]

/-- Anchor words 28 and 29: the policy section (R157, R177). -/
def PolicyUnit.words (p : PolicyUnit) : List Word :=
  [(0#8 ++ p.commitCount ++ 0#6 ++ p.staged.code ++ 0#2 ++ BitVec.ofNat 6 p.active.entries.length : BitVec 32),
    (0#22 ++ p.active.fold.code ++ 0#2 ++ BitVec.ofNat 6 p.active.width : BitVec 32)]

/-- First anchor word of a section (R158). -/
def Section.firstWord : Section → Nat
  | .result => 8 | .notices => 9 | .denial => 12 | .eventStream => 16 | .captureStream => 20 | .capture => 24
  | .policy => 28 | .time => 30

/-- The words a section write carries: the values standing in the event of its grant (R158). -/
def State.sectionWords (s : State) : Section → List Word
  | .result => [s.command.result.encode]
  | .notices =>
    [(0#19 ++ s.notices.raw : BitVec 32), (0#19 ++ s.notices.enable : BitVec 32),
      (0#31 ++ BitVec.ofBool s.report.fault : BitVec 32)]
  | .denial => s.denial.words
  | .eventStream => s.streamWords .event
  | .captureStream => s.streamWords .capture
  | .capture => s.capture.words
  | .policy => s.policy.words
  | .time => [s.time.tick]

/-! ## STATS area -/

/-- Words 0 to 15 of the STATS area: slot 2i in the low half, slot 2i + 1 in the high half (R49, R179). -/
def StatsEngine.firstBurst (e : StatsEngine) : List Word :=
  (List.range 16).map fun i =>
    (BitVec.ofNat 16 (e.slots[2 * i + 1]?.getD 0) ++ BitVec.ofNat 16 (e.slots[2 * i]?.getD 0) : BitVec 32)

/-- Word 16 of the STATS area: the default count and the saturation flag (R49, R179). -/
def StatsEngine.secondBurst (e : StatsEngine) : List Word :=
  [(BitVec.ofBool e.saturated ++ 0#15 ++ BitVec.ofNat 16 e.default : BitVec 32)]

/-! ## Policy image -/

/-- A response field: 0 ERROR, 1 QUIET, 2 and 3 name nothing (R172). -/
def responseField (w : Word) : Option RespSetting :=
  if w.extractLsb' 8 2 = 0 then some .error else if w.extractLsb' 8 2 = 1 then some .quiet else none

/-- A fold mode field: 0 FOLD, 1 STRICT (R172). -/
def foldField (w : Word) : Option FoldMode :=
  if w.extractLsb' 8 2 = 0 then some .fold else if w.extractLsb' 8 2 = 1 then some .strict else none

/-- A capture format field: 0 SHORT, 1 FULL (R172). -/
def formatField (w : Word) : Option CaptureFormat :=
  if w.extractLsb' 4 2 = 0 then some .short else if w.extractLsb' 4 2 = 1 then some .full else none

/-- Decode width field of header word 2 (R172). -/
def widthField (w : Word) : Nat := (w.extractLsb' 0 6).toNat

/-- Decimation code of entry word 5: the factor minus 1 (R172). -/
def decimationField (w : Word) : Nat := (w.extractLsb' 16 16).toNat

/-- Word i of a read. -/
def wordAt (ws : List Word) (i : Nat) : Word := ws[i]?.getD 0

/-- R149: the field index of the first header check that fails, in order. -/
def headerFailure (ws : List Word) : Option Nat :=
  if wordAt ws 0 ≠ 1 then some 0
  else if 32 < (wordAt ws 1).toNat then some 1
  else if widthField (wordAt ws 2) < 16 ∨ 32 < widthField (wordAt ws 2) ∨ foldField (wordAt ws 2) = none then some 2
  else if (wordAt ws 3).toNat % 0x10000 ≠ 0 then some 3
  else if responseField (wordAt ws 4) = none then some 4
  else none

/-- The policy that a header gives, with no entry yet (R146, R172). -/
def headerPolicy (ws : List Word) : Policy :=
  { width := widthField (wordAt ws 2)
    fold := (foldField (wordAt ws 2)).getD .fold
    segmentEnabled := (wordAt ws 2).getLsbD 12
    segmentBoundary := wordAt ws 3
    defaultRule :=
      { permissions := (wordAt ws 4).extractLsb' 0 6
        response := (responseField (wordAt ws 4)).getD .error
        fill := wordAt ws 5
        report := (wordAt ws 4).getLsbD 12 }
    entries := [] }

/-- R150: the word offset of the first check of an entry record that fails, with W from the image's header. -/
def entryFailure (width : Nat) (ws : List Word) : Option Nat :=
  if (wordAt ws 1).toNat < (wordAt ws 0).toNat ∨ 2 ^ (width - 6) ≤ (wordAt ws 1).toNat then some 1
  else if responseField (wordAt ws 3) = none then some 3
  else if formatField (wordAt ws 5) = none ∨ 255 < decimationField (wordAt ws 5) then some 5
  else none

/-- The region entry that an entry record gives (R146, R151, R172). -/
def entryOf (ws : List Word) : RegionEntry :=
  { base := (wordAt ws 0).toNat
    limit := (wordAt ws 1).toNat
    masters := (wordAt ws 2).extractLsb' 0 8
    permissions := (wordAt ws 3).extractLsb' 0 6
    response := (responseField (wordAt ws 3)).getD .error
    fill := wordAt ws 4
    report := (wordAt ws 3).getLsbD 12
    captureKinds := (wordAt ws 5).extractLsb' 0 3
    format := (formatField (wordAt ws 5)).getD .short
    factor := decimationField (wordAt ws 5) + 1 }

end Sys2Proof.Machine
end

