-- ==== Sys2Proof/Machine/Policy.lean ====
section
/-! DEFINITION. Judging one request by the active table (chapter 1, R9 to R21). -/

namespace Sys2Proof.Machine

/-- R12: the FORMAT check fails on a misaligned address, a range past 2^32 or a folded range past 2^W. -/
def formatFails (p : Policy) (r : Request) : Bool :=
  decide (r.address.toNat % 4 ≠ 0) || decide (0xFFFFFFFF < r.address.toNat + 4 * r.beats - 1) ||
    decide (2 ^ p.width ≤ r.lastByte p.width)

/-- R13: the ALIAS check fails under STRICT when a bit of the address at or above W is 1. -/
def aliasFails (p : Policy) (r : Request) : Bool :=
  decide (p.fold = .strict) && decide (foldAddress p.width r.address ≠ r.address.toNat)

/-- R14: the SEGMENT check fails for a USER request whose folded last byte is at or above an enabled boundary. -/
def segmentFails (p : Policy) (r : Request) : Bool :=
  p.segmentEnabled && decide (r.privilege = .user) && decide (p.segmentBoundary.toNat ≤ r.lastByte p.width)

/-- R16: the STRADDLE check fails when the last granule is past the deciding entry's limit. -/
def straddleFails (p : Policy) (r : Request) (e : RegionEntry) : Bool :=
  decide (e.limit < granule (r.lastByte p.width))

/-- R17: does some folded byte from first to last equal a folded byte of a buffer? Two runs of bytes on the circle of
2^W bytes meet exactly when one of them starts inside the other (`bufferOverlaps_iff` in Laws/Policy.lean). -/
def bufferOverlaps (width first last : Nat) (b : DescriptorCopy) : Bool :=
  decide (0 < b.length) &&
    (decide ((first + 2 ^ width - foldAddress width b.buffer) % 2 ^ width < b.length) ||
      decide ((foldAddress width b.buffer + 2 ^ width - first) % 2 ^ width ≤ last - first))

/-- R17: the BUFFER check fails for a WRITE that overlaps the current buffer of either walker. -/
def bufferFails (p : Policy) (r : Request) (buffers : List DescriptorCopy) : Bool :=
  decide (r.kind = .write) &&
    buffers.any (bufferOverlaps p.width (r.firstByte p.width) (r.lastByte p.width))

/-- The current buffers of both walkers (R17). -/
def State.currentBuffers (s : State) : List DescriptorCopy :=
  s.eventWalker.currentBuffer.toList ++ s.captureWalker.currentBuffer.toList

/-- A denial answered under the default rule (R19). -/
def Policy.defaultDenial (p : Policy) (k : DenialKind) : DenialTerms :=
  { kind := k, response := p.defaultRule.response, fill := p.defaultRule.fill, report := p.defaultRule.report }

/-- A denial answered under a region entry (R19). -/
def RegionEntry.denial (e : RegionEntry) (k : DenialKind) : DenialTerms :=
  { kind := k, response := e.response, fill := e.fill, report := e.report }

/-- R21: what a PASS under entry e is eligible for. -/
def RegionEntry.eligibility (e : RegionEntry) (k : AccessKind) : Option Eligibility :=
  if e.captures k then some { format := e.format, factor := e.factor } else none

/-- R11 from the lookup on, with its result: STRADDLE, BUFFER and PERMISSION. -/
def Policy.judgeFound (p : Policy) (buffers : List DescriptorCopy) (r : Request) (e : RegionEntry) : Verdict :=
  if straddleFails p r e then .deny (e.denial .straddle)
  else if bufferFails p r buffers then .deny (p.defaultDenial .buffer)
  else if !permits e.permissions r then .deny (e.denial .permission)
  else .pass (e.eligibility r.kind)

/-- R11 from the lookup on, with no deciding entry: BUFFER and PERMISSION by the default rule. -/
def Policy.judgeDefault (p : Policy) (buffers : List DescriptorCopy) (r : Request) : Verdict :=
  if bufferFails p r buffers then .deny (p.defaultDenial .buffer)
  else if !permits p.defaultRule.permissions r then .deny (p.defaultDenial .permission)
  else .pass none

/-- R11: the seven steps in order. The deciding entry is recorded from lookup on, and is NONE for a FORMAT, ALIAS or
SEGMENT denial (R19). -/
def Policy.judge (p : Policy) (buffers : List DescriptorCopy) (r : Request) : Verdict × Option Nat :=
  if formatFails p r then (.deny (p.defaultDenial .format), none)
  else if aliasFails p r then (.deny (p.defaultDenial .aliased), none)
  else if segmentFails p r then (.deny (p.defaultDenial .segment), none)
  else
    match p.lookup r with
    | some k =>
      match p.entries[k]? with
      | some e => (p.judgeFound buffers r e, some k)
      | none => (p.judgeDefault buffers r, none)
    | none => (p.judgeDefault buffers r, none)

/-- The decision record of a request taken now (R20). -/
def State.decisionRecord (s : State) (r : Request) : DecisionRecord :=
  let j := s.policy.active.judge s.currentBuffers r
  { verdict := j.1, timestamp := s.time.tick, entry := j.2 }

end Sys2Proof.Machine
end

