-- ==== Sys2Proof/Machine/Denials.lean ====
section
/-! DEFINITION. The account of a denial (R42 to R47, R51 to R53) and its answer on the bus (R33, R39, R40). -/

namespace Sys2Proof.Machine

/-- What the latch and a DENIAL record hold of a denial (R43, R52). -/
def denialInfo (r : Request) (d : DecisionRecord) (t : DenialTerms) : DenialInfo :=
  { address := r.address, kind := t.kind, access := r.kind, privilege := r.privilege, master := r.master,
    beats := r.beats, entry := d.entry, timestamp := d.timestamp }

/-- R43 to R45: fill the latch or set more-denials; add the kind to the sticky set. -/
def DenialUnit.record (u : DenialUnit) (i : DenialInfo) : DenialUnit :=
  { u with
    latch := some (u.latch.getD i)
    more := u.more || u.latch.isSome
    sticky := u.sticky ||| (1#6 <<< i.kind.stickyBit) }

/-- The content of the denial section (R53): the latch, the flag and the set, not the count. -/
def DenialUnit.sectionContent (u : DenialUnit) : Option DenialInfo × Bool × BitVec 6 := (u.latch, u.more, u.sticky)

/-- Put a denial unit in place and mark the denial section dirty if its content changed (R53). -/
def State.setDenial (s : State) (u : DenialUnit) : State :=
  { s with denial := u }.markDirtyIf (u.sectionContent != s.denial.sectionContent) .denial

/-- R19: the slot whose count a denial raises, for a STRADDLE or PERMISSION denial with an entry. -/
def denialSlot (k : DenialKind) (entry : Option Nat) : Option Nat :=
  match k with
  | .straddle => entry
  | .permission => entry
  | .format => none | .aliased => none | .segment => none | .buffer => none

/-- R23: one more, stopping at 65535. -/
def countUp (n : Nat) : Nat := min Config.countMax (n + 1)

/-- R23, R47: exactly one count is incremented. -/
def State.countDenial (s : State) (k : DenialKind) (entry : Option Nat) : State :=
  match denialSlot k entry with
  | some i =>
    { s with policy := { s.policy with
        slotCounts := s.policy.slotCounts.setIfInBounds i (countUp (s.policy.slotCounts[i]?.getD 0)) } }
  | none => { s with denial := { s.denial with defaultCount := countUp s.denial.defaultCount } }

/-- The account of a DENY decision but for its record: latch, more, sticky set, one count, notice DENIAL (R42). -/
def State.accountDenial (s : State) (i : DenialInfo) : State :=
  ((s.setDenial (s.denial.record i)).countDenial i.kind i.entry).raise .denial

/-- R51: the DENIAL record is offered when the decision has report denials on. -/
def State.reportDenial (i : DenialInfo) (t : DenialTerms) (s : State) : State :=
  if t.report then s.offer .event (.denial i t.response) else s

/-- Set all 33 denial counts to 0 (R23). -/
def State.clearCounts (s : State) : State :=
  { s with
    policy := { s.policy with slotCounts := Vector.replicate 32 0 }
    denial := { s.denial with defaultCount := 0 } }

/-- The response code of a denial: ERROR, or OKAY for QUIET (R33, R39). -/
def RespSetting.respCode : RespSetting → RespCode
  | .error => .error
  | .quiet => .okay

/-- The answer the part makes to a denied transaction: one code, and fill beats for a FETCH or READ (R33, R40). -/
def denialAnswer (r : Request) (t : DenialTerms) : MemResponse :=
  { code := t.response.respCode
    data := match r.kind with
      | .write => []
      | .fetch => List.replicate r.beats t.fill
      | .read => List.replicate r.beats t.fill }

end Sys2Proof.Machine
end

