-- ==== Sys2Proof/Machine/Capture.lean ====
section
/-! DEFINITION. The capture unit (chapter 4): state changes, triggers, considering an access, groups, the pending list,
records and GROUP_END, and what CAPTURE_START, CAPTURE_STOP and RECORD_RESET do to it. -/

namespace Sys2Proof.Machine

/-- Replace the capture unit. -/
def State.setCapture (s : State) (c : CaptureUnit) : State := { s with capture := c }

/-- A group count raised by k, stopping at 0xFFFF_FFFF (R62). -/
def groupCount (n k : Nat) : Nat := min Config.groupCountMax (n + k)

/-- A change of the capture state (R72): CAPTURE_STATE is raised, the section is marked dirty (R73), and one
CAPTURE_STATE record with the group number standing is offered. Nothing happens where the state stays. -/
def State.changeCapture (s : State) (new : CaptureState) : State :=
  if s.capture.state = new then s
  else
    (((s.setCapture { s.capture with state := new }).raise .captureState).markDirty .capture).offer .event
      (.captureState s.capture.state new s.capture.groupNumber s.time.tick)

/-! ## GROUP_END -/

/-- A non-void pending entry carries the group number (R70). -/
def CaptureUnit.groupPending (c : CaptureUnit) (number : BitVec 8) : Bool :=
  c.pendingList.any (fun e => !e.voided && decide (e.group = number))

/-- R70: offer the GROUP_END of each owed group that is due, from the head of the owed list, and remove it. -/
def State.offerDue (s : State) : List ClosedGroup → State
  | [] => s.setCapture { s.capture with owed := [] }
  | g :: gs =>
    if s.capture.groupPending g.number then s.setCapture { s.capture with owed := g :: gs }
    else ((s.setCapture { s.capture with owed := gs }).offer .capture (.groupEnd g)).offerDue gs

/-- R70 in the state as it stands. -/
def State.endDueGroups (s : State) : State := s.offerDue s.capture.owed

/-! ## Groups -/

/-- R64: the state after a close. -/
def closedState (state : CaptureState) (reason : GroupReason) (oneShot : Bool) : CaptureState :=
  match state with
  | .stopping => .stopped
  | .running => if oneShot || decide (reason = .stop) then .stopped else .running
  | .armed => if reason = .stop then .stopped else .armed
  | .stopped => .stopped

/-- The open group as it is fixed at its close (R64). -/
def OpenGroup.close (g : OpenGroup) (reason : GroupReason) (tick : Word) : ClosedGroup :=
  { number := g.number, reason := reason, timestamp := tick, produced := g.produced, lost := g.lost, skips := g.skips }

/-- R64: close the open group. The number advances, the timer becomes idle, the group joins the owed list and its
GROUP_END is offered at once if it is due, and the capture state changes. Nothing happens with no group open. -/
def State.closeGroup (s : State) (reason : GroupReason) : State :=
  match s.capture.openGroup with
  | none => s
  | some g =>
    let c := s.capture
    let s1 := (s.setCapture { c with
      groupNumber := c.groupNumber + 1, openGroup := none, quietTimer := none,
      owed := c.owed ++ [g.close reason s.time.tick] }).markDirty .capture
    s1.endDueGroups.changeCapture (closedState c.state reason c.trigger.oneShot)

/-- The first write beat a FULL record of a WRITE carries (R65). -/
def firstWriteBeat (r : Request) (f : CaptureFormat) : Option Word :=
  match f, r.kind with
  | .full, .write => r.writeData.head?.map (·.data)
  | .full, .fetch => none
  | .full, .read => none
  | .short, _ => none

/-- The pending entry of a captured access (R65). -/
def pendingOf (group : BitVec 8) (r : Request) (d : DecisionRecord) (e : Eligibility) (k : Nat) : PendingEntry :=
  { group := group, format := e.format, entry := k, timestamp := d.timestamp, address := r.address, access := r.kind,
    privilege := r.privilege, master := r.master, beats := r.beats, firstBeat := firstWriteBeat r e.format,
    voided := false }

/-- R61: the open group of a captured access: the one open, or a new one with the current number (R62). -/
def CaptureUnit.groupForCapture (c : CaptureUnit) : OpenGroup :=
  c.openGroup.getD { number := c.groupNumber, produced := 0, lost := 0, skips := 0 }

/-- R63: the quiet timer as a captured access sets it. -/
def TriggerSettings.quietStart (t : TriggerSettings) : Option Nat := if t.quiet = 0 then none else some t.quiet

/-- R61: take a captured access: its group, its pending entry, the produced count, the quiet timer, and a close by
LIMIT. -/
def State.captureAccess (s : State) (r : Request) (d : DecisionRecord) (e : Eligibility) (k : Nat) : State :=
  let c := s.capture
  let g := c.groupForCapture
  let g' := { g with produced := groupCount g.produced 1 }
  let s1 := (s.setCapture { c with
    openGroup := some g', pendingList := c.pendingList ++ [pendingOf g.number r d e k],
    quietTimer := c.trigger.quietStart }).markDirtyIf (some g'.produced != c.openGroup.map (·.produced)) .capture
  if c.trigger.limit ≠ 0 ∧ g'.produced = c.trigger.limit then s1.closeGroup .limit else s1

/-- The value of decimation counter k (R22). -/
def State.counter (s : State) (k : Nat) : Nat := s.policy.decimation[k]?.getD 1

/-- Set decimation counter k (R22). -/
def State.setCounter (s : State) (k n : Nat) : State :=
  { s with policy := { s.policy with decimation := s.policy.decimation.setIfInBounds k n } }

/-- Set all 32 decimation counters to 1 (R22). -/
def State.resetCounters (s : State) : State :=
  { s with policy := { s.policy with decimation := Vector.replicate 32 1 } }

/-- R60: a skip adds one to the open group's skip count, and is counted in no group while none is open. -/
def State.countSkip (s : State) : State :=
  match s.capture.openGroup with
  | some g => s.setCapture { s.capture with openGroup := some { g with skips := groupCount g.skips 1 } }
  | none => s

/-- Is an eligible access considered in this capture state (R60)? -/
def CaptureState.considers : CaptureState → Bool
  | .running => true
  | .stopping => true
  | .stopped => false
  | .armed => false

/-- R60: is an eligible access under entry k captured now (the decremented counter is 0)? -/
def State.capturesNow (s : State) (k : Nat) : Bool := s.capture.state.considers && decide (s.counter k - 1 = 0)

/-- R60: consider an eligible access under entry k. -/
def State.consider (s : State) (r : Request) (d : DecisionRecord) (e : Eligibility) (k : Nat) : State :=
  if !s.capture.state.considers then s
  else if s.counter k - 1 = 0 then (s.setCounter k e.factor).captureAccess r d e k
  else (s.setCounter k (s.counter k - 1)).countSkip

/-- R59: an eligible PASS under the trigger entry fires an armed ON_ENTRY trigger. -/
def State.fireOnEntry (s : State) (k : Nat) : State :=
  if s.capture.state = .armed ∧ s.capture.trigger.kind = .onEntry ∧ s.capture.trigger.entry = k then
    s.changeCapture .running
  else s

/-- R58: a DENY decision fires an armed ON_DENIAL trigger. -/
def State.denialTriggers (s : State) : Bool :=
  decide (s.capture.state = .armed) && decide (s.capture.trigger.kind = .onDenial)

/-- R58 as an effect. -/
def State.fireOnDenial (s : State) : State := if s.denialTriggers then s.changeCapture .running else s

/-! ## Records of captured accesses -/

/-- R67: the data field of a FULL record. -/
def fullData (e : PendingEntry) (ans : MemResponse) : Word :=
  match e.access with
  | .write => e.firstBeat.getD 0
  | .fetch => if ans.code = .okay then ans.data.headD 0 else 0
  | .read => if ans.code = .okay then ans.data.headD 0 else 0

/-- R67: the capture record of a completed pending entry. -/
def PendingEntry.record (e : PendingEntry) (ans : MemResponse) : Record :=
  match e.format with
  | .short => .short e.address e.access e.privilege e.master e.beats e.group (e.timestamp.setWidth 16)
  | .full => .full e.address e.access e.privilege e.master e.beats e.group e.entry e.timestamp (fullData e ans)
      (decide (ans.code = .error))

/-- R69: one more lost in the owed group with a number. -/
def countOwedLost (owed : List ClosedGroup) (number : BitVec 8) : List ClosedGroup :=
  updateFirst (fun o => decide (o.number = number)) (fun o => { o with lost := groupCount o.lost 1 }) owed

/-- R69: a capture record lost at its offer adds one to its group's lost count, open or owed. -/
def CaptureUnit.countGroupLost (c : CaptureUnit) (number : BitVec 8) : CaptureUnit :=
  match c.openGroup with
  | some g =>
    if g.number = number then { c with openGroup := some { g with lost := groupCount g.lost 1 } }
    else { c with owed := countOwedLost c.owed number }
  | none => { c with owed := countOwedLost c.owed number }

/-- R66: take the completion of a captured transaction: the head pending entry is removed and, unless void, its record
is offered and a loss counted in its group. -/
def State.takeCaptured (ans : MemResponse) (s : State) : State :=
  match s.capture.pendingList with
  | [] => s
  | e :: es =>
    let s1 := s.setCapture { s.capture with pendingList := es }
    if e.voided then s1
    else
      let r := e.record ans
      if s1.accepts .capture r then s1.offer .capture r
      else (s1.setCapture (s1.capture.countGroupLost e.group)).offer .capture r

/-! ## Quiet timer -/

/-- R63: one advance of the time base at the quiet timer, with its expiry. -/
def State.tickQuiet (s : State) : State :=
  match s.capture.quietTimer with
  | none => s
  | some n =>
    if n ≤ 1 then (s.setCapture { s.capture with quietTimer := none }).closeGroup .quiet
    else s.setCapture { s.capture with quietTimer := some (n - 1) }

/-! ## Commands -/

/-- R56: start a session with the given trigger settings. -/
def State.startCapture (s : State) (t : TriggerSettings) : State :=
  (((s.setCapture { s.capture with trigger := t }).markDirty .capture).resetCounters).changeCapture
    (if t.kind = .immediate then .running else .armed)

/-- R55, R57: CAPTURE_STOP NOW in a state other than STOPPED. -/
def State.stopNow (s : State) : State :=
  if s.capture.openGroup.isSome then s.closeGroup .stop else s.changeCapture .stopped

/-- R55, R57: CAPTURE_STOP AT_GROUP_END in ARMED or RUNNING. -/
def State.stopAtGroupEnd (s : State) : State :=
  if s.capture.state = .running ∧ s.capture.openGroup.isSome then s.changeCapture .stopping
  else s.changeCapture .stopped

/-- R75: the capture unit after RECORD_RESET. -/
def CaptureUnit.recordReset (c : CaptureUnit) : CaptureUnit :=
  { c with
    state := .stopped, groupNumber := 0, openGroup := none, quietTimer := none, owed := []
    pendingList := c.pendingList.map (fun e => { e with voided := true }) }

/-- R75, R73: the section is marked dirty when the state, the group number or the open group changes. -/
def State.resetCapture (s : State) : State :=
  (s.setCapture s.capture.recordReset).markDirtyIf
    (decide (s.capture.state ≠ .stopped) || decide (s.capture.groupNumber ≠ 0) || s.capture.openGroup.isSome) .capture

end Sys2Proof.Machine
end

