-- ==== Sys2Proof/Machine/Walkers.lean ====
section
/-! DEFINITION. The two walkers (chapter 6): closing a buffer, flush ends, faults, aborts, what a completed fetch, burst
and status write do, release by a watched write, and `settle`, the judgement of the close conditions that ends
every event. -/

namespace Sys2Proof.Machine

/-- Put a walker in place and mark its stream's section dirty if its state changed (R94). -/
def State.moveWalker (s : State) (st : StreamId) (w : Walker) : State :=
  (s.setWalker st w).markDirtyIf (decide (w.state ≠ (s.walker st).state)) st.reportSection

/-! ## Flush ends -/

/-- A flush ends with a result: the flush count becomes absent and the command unit takes the completion (R108, R109,
R140). -/
def State.endFlush (s : State) (st : StreamId) (r : Result) : State :=
  (s.setWalker st { s.walker st with flushCount := none }).finish (some st) r 0

/-- A flush in progress, if any, ends with a result (R109). -/
def State.cutFlush (s : State) (st : StreamId) (r : Result) : State :=
  if (s.walker st).flushCount.isSome then s.endFlush st r else s

/-! ## Closing -/

/-- Close the buffer with a reason: the pending close reason is set and the walker enters CLOSING, which withdraws any
burst request (R101, R103, R108). -/
def State.closeBuffer (s : State) (st : StreamId) (reason : CloseReason) : State :=
  s.moveWalker st { s.walker st with state := .closing, closeReason := some reason }

/-- R108: a flush at its end point over an empty buffer ends DONE with no close. -/
def State.settleFlush (s : State) (st : StreamId) : State :=
  if (s.walker st).atRest && (s.walker st).flushDone && decide ((s.walker st).fillOffset = 0) then s.endFlush st .done
  else s

/-- The close conditions of a walker at rest, judged as R101, R103 and R108 give. At a flush's end point the reason is
FULL if the FULL condition holds and FLUSH otherwise. `lingerFirst` says which reason is taken where the FULL and
the LINGER condition hold in the same event, which the spec leaves open. -/
def State.settleClose (s : State) (st : StreamId) (lingerFirst : Bool) : State :=
  let w := s.walker st
  let full := w.fullCondition (s.stream st).fifo
  let linger := w.lingerCondition (s.lingerSetting st)
  if !w.atRest then s
  else if w.flushDone then s.closeBuffer st (if full then .full else .flush)
  else if full then s.closeBuffer st (if linger && lingerFirst then .linger else .full)
  else if linger then s.closeBuffer st .linger
  else s

/-- Both the FULL and the LINGER condition hold for a walker at rest outside a flush's end point. -/
def State.closeOpen (s : State) (st : StreamId) : Bool :=
  (s.walker st).atRest && !(s.walker st).flushDone && (s.walker st).fullCondition (s.stream st).fifo &&
    (s.walker st).lingerCondition (s.lingerSetting st)

/-- Judge one walker's flush end and close conditions (R101, R103, R108); a free choice gives the reason where two
hold (log entry 4). -/
def State.settleWalker (s : State) (st : StreamId) : State :=
  let s1 := s.settleFlush st
  if s1.closeOpen st then (s1.drawn 1).settleClose st s1.choice else s1.settleClose st false

/-- The end of every event: the conditions of R101, R103 and R108 "are judged in every event in which the walker is
FILLING with no transaction in flight". They are judged last: where a capture record that enters at a write's completion
brings the FULL condition, a command that the same completion delivers is taken before the close (DESIGN CHOICE, log
entry 24). -/
def State.settle (s : State) : State := (s.settleWalker .event).settleWalker .capture

/-! ## Faults -/

/-- R109: how a flush ends at a fault with a given cause. -/
def FaultCause.flushResult : FaultCause → Result
  | .fetchError => .memerr | .burstError => .memerr | .statusError => .memerr
  | .wrongStream => .state | .badAddress => .state | .badLength => .state | .badLink => .state | .badOwner => .state

/-- R115: enter FAULTED: CHAIN_FAULT raised, one CHAIN_FAULT record offered to the event stream, buffer and copy given
up, current descriptor address and fill offset kept; a flush in progress is cut short (R109). -/
def State.enterFaulted (s : State) (st : StreamId) (cause : FaultCause) : State :=
  let w := s.walker st
  (((s.moveWalker st { w with state := .faulted, copy := none, closeReason := none, inFlight := none }).raise
      .chainFault).offer .event (.chainFault st cause w.current s.time.tick)).cutFlush st cause.flushResult

/-! ## Abort -/

/-- R114: the abort completes: the FIFO is discarded and counted lost, the walker goes IDLE, and the command completes
with MEMERR if the abort error flag is set and DONE otherwise. -/
def State.completeAbort (s : State) (st : StreamId) : State :=
  let w := s.walker st
  let x := s.stream st
  let s1 := (s.setStream st { x with fifo := [] }).countLost st x.fifo.length
  (s1.moveWalker st { w with
      state := .idle, current := 0, copy := none, fillOffset := 0, lingerAge := 0, closeReason := none,
      inFlight := none }).finish (some st) (if w.abortError then .memerr else .done) 0

/-- R112 step 2: with no burst in flight, a part-filled buffer is written back with reason ABORT; an empty one is not,
and the abort completes. -/
def State.abortFilled (s : State) (st : StreamId) : State :=
  let w := s.walker st
  if 0 < w.fillOffset then s.moveWalker st { w with state := .aborting, closeReason := some .abort }
  else s.completeAbort st

/-- R110: the walker takes an abort. -/
def State.abortWalker (s : State) (st : StreamId) : State :=
  let w := { s.walker st with abortError := false }
  let s1 := s.setWalker st w
  match w.state with
  | .idle => s1.completeAbort st
  | .ended => s1.completeAbort st
  | .faulted => s1.completeAbort st
  | .waiting => s1.completeAbort st
  | .fetching =>
    if w.inFlight.isSome then s1.moveWalker st { w with state := .aborting } else s1.completeAbort st
  | .filling =>
    if w.inFlight.isSome then s1.moveWalker st { w with state := .aborting } else s1.abortFilled st
  | .closing => s1.moveWalker st { w with state := .aborting }
  | .aborting => s1

/-! ## Starting -/

/-- The states in which a walker takes SET_CHAIN with an address (R96). -/
def WalkerState.startable : WalkerState → Bool
  | .idle => true | .ended => true | .faulted => true
  | .fetching => false | .waiting => false | .filling => false | .closing => false | .aborting => false

/-- R96: start a chain at a descriptor. -/
def State.startChain (s : State) (st : StreamId) (descriptor : Word) : State :=
  s.moveWalker st { s.walker st with
    state := .fetching, current := descriptor, fillOffset := 0, gapPresent := false, lingerAge := 0 }

/-- R105, R106: refetch the descriptor a WAITING walker waits on. -/
def State.refetch (s : State) (st : StreamId) : State := s.moveWalker st { s.walker st with state := .fetching }

/-! ## Completions -/

/-- R98: the first descriptor check that fails, in order. -/
def descriptorFault (st : StreamId) (w0 w1 w2 w3 : Word) : Option FaultCause :=
  if descriptorStream w2 ≠ st then some .wrongStream
  else if w0.toNat % 16 ≠ 0 then some .badAddress
  else if w1.toNat < 16 ∨ 1048576 < w1.toNat ∨ w1.toNat % 16 ≠ 0 ∨ 0xFFFFFFFF < w0.toNat + w1.toNat - 1 then
    some .badLength
  else if descriptorLast w2 = false ∧ (descriptorLink w2).toNat % 16 ≠ 0 then some .badLink
  else if descriptorOwnedByPart w3 = none then some .badOwner
  else none

/-- R99, owner PART: keep the copy and enter FILLING. -/
def State.enterFilling (s : State) (st : StreamId) (c : DescriptorCopy) : State :=
  s.moveWalker st { s.walker st with
    state := .filling, copy := some c, fillOffset := 0, gapPresent := false, lingerAge := 0, inFlight := none }

/-- R99, owner SOFTWARE: enter WAITING and raise STARVED; a flush in progress ends with STATE (R109). -/
def State.enterWaiting (s : State) (st : StreamId) : State :=
  ((s.moveWalker st { s.walker st with state := .waiting, copy := none, inFlight := none }).raise
    st.starvedNotice).cutFlush st .state

/-- R98, R99: judge a completed descriptor fetch. -/
def State.judgeDescriptor (s : State) (st : StreamId) (ans : MemResponse) : State :=
  if ans.code = .error then s.enterFaulted st .fetchError
  else
    let w0 := wordAt ans.data 0
    let w1 := wordAt ans.data 1
    let w2 := wordAt ans.data 2
    let w3 := wordAt ans.data 3
    match descriptorFault st w0 w1 w2 w3 with
    | some c => s.enterFaulted st c
    | none =>
      if descriptorOwnedByPart w3 = some true then s.enterFilling st (descriptorCopy w0 w1 w2)
      else s.enterWaiting st

/-- The walker takes its fetch's memory completion: FETCHING as R98, ABORTING as R111. -/
def State.takeFetch (s : State) (st : StreamId) (ans : MemResponse) : State :=
  if (s.walker st).state = .aborting then s.completeAbort st else s.judgeDescriptor st ans

/-- Bytes of a run of records. -/
def recordBytes (rs : List Record) : Nat := 4 * (rs.map Record.words).sum

/-- R101: the walker after an OKAY burst; the flush count falls by the records carried (R108). -/
def Walker.afterBurst (w : Walker) (rs : List Record) : Walker :=
  { w with
    fillOffset := w.fillOffset + recordBytes rs
    gapPresent := w.gapPresent || rs.any Record.isGap
    lingerAge := 0
    flushCount := w.flushCount.map (· - rs.length)
    inFlight := none }

/-- The walker takes its burst's memory completion: FILLING as R101 and R102, ABORTING as R112. -/
def State.takeBurst (s : State) (st : StreamId) (rs : List Record) (code : RespCode) : State :=
  let w := s.walker st
  match code with
  | .okay =>
    let s1 := s.setWalker st (w.afterBurst rs)
    if w.state = .aborting then s1.abortFilled st else s1
  | .error =>
    let s1 := s.countLost st rs.length
    if w.state = .aborting then
      (s1.setWalker st { s1.walker st with inFlight := none, abortError := true }).abortFilled st
    else s1.enterFaulted st .burstError

/-- R104, OKAY and LAST clear: follow the link. -/
def State.followLink (s : State) (st : StreamId) (link : Word) : State :=
  s.moveWalker st { s.walker st with
    state := .fetching, current := link, copy := none, fillOffset := 0, gapPresent := false, lingerAge := 0,
    closeReason := none, inFlight := none }

/-- R104, OKAY and LAST set: enter ENDED and raise CHAIN_END. -/
def State.enterEnded (s : State) (st : StreamId) : State :=
  (s.moveWalker st { s.walker st with state := .ended, copy := none, closeReason := none, inFlight := none }).raise
    .chainEnd

/-- A status write completed OKAY: the buffer notice is raised and the section marked dirty for the close (R104). -/
def State.bufferClosed (s : State) (st : StreamId) : State := (s.raise st.bufferNotice).markDirty st.reportSection

/-- R108, R109: how a flush stands at its walker's OKAY status write: at its end point (count 0) it ends DONE; otherwise
it ends with STATE when the walker has ENDED, and goes on when the walker fetches the link. -/
def State.flushAtClose (s : State) (st : StreamId) (ended : Bool) : State :=
  match (s.walker st).flushCount with
  | some 0 => s.endFlush st .done
  | some (_ + 1) => if ended then s.endFlush st .state else s
  | none => s

/-- R104: the walker in CLOSING takes its status write's memory completion. -/
def State.closeCompleted (s : State) (st : StreamId) (c : DescriptorCopy) (code : RespCode) : State :=
  match code with
  | .error => s.enterFaulted st .statusError
  | .okay =>
    if c.last then ((s.bufferClosed st).enterEnded st).flushAtClose st true
    else ((s.bufferClosed st).followLink st c.link).flushAtClose st false

/-- R112, R113: the walker in ABORTING takes its status write's memory completion. -/
def State.abortCloseCompleted (s : State) (st : StreamId) (code : RespCode) : State :=
  match code with
  | .okay => (s.bufferClosed st).completeAbort st
  | .error => (s.setWalker st { s.walker st with abortError := true }).completeAbort st

/-! ## Release by a watched write -/

/-- R105: does a write completion cover a descriptor's status word? -/
def WriteCompletion.coversStatus (wc : WriteCompletion) (width : Nat) (descriptor : Word) : Bool :=
  wc.beats.any fun b => decide (b.address.toNat = foldAddress width (descriptor + 12)) && b.enables != 0

/-- R105: a WAITING walker takes a write completion offered to it. -/
def State.offerToWalker (s : State) (width : Nat) (wc : WriteCompletion) (st : StreamId) : State :=
  if (s.walker st).state = .waiting ∧ wc.coversStatus width (s.walker st).current then s.refetch st else s

/-- R36: the write completion is offered to each walker that is in WAITING. -/
def State.offerToWalkers (width : Nat) (wc : WriteCompletion) (s : State) : State :=
  (s.offerToWalker width wc .event).offerToWalker width wc .capture

/-! ## Time base and RECORD_RESET -/

/-- R103: one advance of the time base at a walker's linger age. -/
def State.ageWalker (s : State) (st : StreamId) : State :=
  let w := s.walker st
  if w.state = .filling ∧ 0 < w.fillOffset then
    s.setWalker st { w with lingerAge := min Config.countMax (w.lingerAge + 1) }
  else s

/-- R92: a stream after RECORD_RESET. -/
def State.resetStream (s : State) (st : StreamId) : State :=
  (s.setStream st .reset).markDirtyIf (decide ((s.stream st).lost ≠ 0)) st.reportSection

/-- R116: a walker after RECORD_RESET. -/
def State.resetWalker (s : State) (st : StreamId) : State := s.moveWalker st .reset

/-- R126: RECORD_RESET voids the issue list's EVENT and CAPTURE entries. -/
def IssueEntry.voidWalker (e : IssueEntry) : IssueEntry :=
  match e.requester with
  | .event => { e with voided := true }
  | .capture => { e with voided := true }
  | .pass => e | .report => e | .command => e

/-- R126 over the issue list. -/
def State.voidWalkers (s : State) : State :=
  { s with arbiter := { s.arbiter with issued := s.arbiter.issued.map IssueEntry.voidWalker } }

end Sys2Proof.Machine
end

