-- ==== Sys2Proof/WellFormed.lean ====
section
/-! DEFINITION. Which terms of `Instr` stand for an event that can reach the part: field ranges the spec gives a
request (R24), a write completion (R36) and an unknown command code (R134, R178). -/

namespace Sys2Proof.Machine

/-- R24: 1 to 16 beats, and write data (with its enables) for a WRITE only, one per beat. -/
def Request.wellFormed (r : Request) : Bool :=
  1 ≤ r.beats && r.beats ≤ 16 &&
    (match r.kind with
     | .write => r.writeData.length == r.beats
     | .fetch => r.writeData.isEmpty
     | .read  => r.writeData.isEmpty)

/-- R36: a write completion carries 1 to 16 beats, each at a word address. -/
def WriteCompletion.wellFormed (wc : WriteCompletion) : Bool :=
  1 ≤ wc.beats.length && wc.beats.length ≤ 16 && wc.beats.all (fun b => b.address.toNat % 4 == 0)

/-- R178: codes 0x01 to 0x11 name commands; every other code names none. -/
def namesCommand (code : BitVec 8) : Bool := 1 ≤ code.toNat && code.toNat ≤ 0x11

end Sys2Proof.Machine

namespace Sys2Proof

open Machine

/-- The check on a term of `Instr`. Rows whose operands cannot be out of range pass. -/
def Instr.wellFormed : Instr → Bool
  | .decisionPoint req => req.wellFormed
  | .anchorArgumentWrite wc => wc.wellFormed
  | .unknownCommand _ code => !namesCommand code
  | .reset _ _ => true
  | .resetRelease _ _ => true
  | .memoryGrant => true
  | .passMemoryCompletion _ => true
  | .descriptorFetchCompletion _ => true
  | .recordBurstCompletion _ => true
  | .statusWriteCompletion _ => true
  | .reportWriteCompletion _ => true
  | .statsBurstCompletion _ => true
  | .policyReadCompletion _ => true
  | .drainResponse _ => true
  | .voidAnswerDiscard _ => true
  | .deliveryEnd => true
  | .tickAdvance => true
  | .quietTimerExpiry => true
  | .lingerClose _ => true
  | .refresh _ => true
  | .loadPolicy _ => true
  | .commit _ => true
  | .discard _ => true
  | .setChain _ => true
  | .setChainAbort _ => true
  | .kick _ => true
  | .flush _ => true
  | .captureStart _ => true
  | .captureStopNow _ => true
  | .captureStopAtGroupEnd _ => true
  | .mark _ => true
  | .ack _ => true
  | .noticeEnable _ => true
  | .forceNotice _ => true
  | .clearDenials _ => true
  | .stats _ => true
  | .setTiming _ => true
  | .recordReset _ => true
  | .clock => true

end Sys2Proof
end

