-- ==== Sys2Proof/Machine/Commands.lean ====
section
/-! DEFINITION. The command unit (chapter 8): the argument shadow, the judgement of a delivery (R134), and each command's
effect. A command row is a delivery of its code by a write of a given privilege, with the shadow as it stands. -/

namespace Sys2Proof.Machine

/-! ## Events -/

/-- RESET is not asserted: the ports work and the clock counts (R37, R87). -/
def State.live (s : State) : Bool := !s.resetAsserted

/-- An event of the part: where its condition holds it takes its effect, and the walkers' close conditions are judged at
its end; where it does not hold there is no such event, and the state stays (log entry 5). -/
def event (enabled : Bool) (effect : State → State) (s : State) : Host.Outcome State Fault Refusal :=
  .next (if enabled then (effect s).settle else s)

/-! ## Codes -/

/-- The commands of R178. -/
inductive Command where
  | refresh | loadPolicy | commit | discard | setChain | kick | flush | captureStart | captureStop | mark | ack
  | noticeEnable | forceNotice | clearDenials | stats | setTiming | recordReset
  deriving DecidableEq, Repr

/-- Command codes of R178. -/
def Command.code : Command → BitVec 8
  | .refresh => 0x01 | .loadPolicy => 0x02 | .commit => 0x03 | .discard => 0x04 | .setChain => 0x05 | .kick => 0x06
  | .flush => 0x07 | .captureStart => 0x08 | .captureStop => 0x09 | .mark => 0x0A | .ack => 0x0B
  | .noticeEnable => 0x0C | .forceNotice => 0x0D | .clearDenials => 0x0E | .stats => 0x0F | .setTiming => 0x10
  | .recordReset => 0x11

/-- The commands in code order. -/
def Command.all : List Command :=
  [.refresh, .loadPolicy, .commit, .discard, .setChain, .kick, .flush, .captureStart, .captureStop, .mark, .ack,
    .noticeEnable, .forceNotice, .clearDenials, .stats, .setTiming, .recordReset]

/-- The command that a code names (R178). -/
def commandOf (code : BitVec 8) : Option Command := Command.all.find? (fun c => decide (c.code = code))

/-- Set the result word of a command with field index 0 (R136). -/
def State.answer (s : State) (c : Command) (r : Result) (number : BitVec 8) : State := s.setResult c.code r 0 number

/-- A lasting command is accepted: the running command takes its code, number and stream (R135). -/
def State.startRunning (s : State) (c : Command) (number : BitVec 8) (stream : Option StreamId) : State :=
  { s with command := { s.command with running := some { code := c.code, number := number, stream := stream } } }

/-! ## The commands' effects, from the BADARG stage on (R134 stages 4 to 6) -/

/-- R138. -/
def bodyRefresh (n : BitVec 8) (s : State) : State :=
  { s with report := { s.report with dirty := 0xFF, fault := false } }.answer .refresh .done n

/-- R147: an image address is a multiple of 64 and at most 0xFFFF_FBC0. -/
def imageAddressOk (w : Word) : Bool := decide (w.toNat % 64 = 0) && decide (w.toNat ≤ 0xFFFFFBC0)

/-- R147. -/
def bodyLoadPolicy (n : BitVec 8) (s : State) : State :=
  if imageAddressOk (s.arg 1) then
    let s1 := s.startRunning .loadPolicy n none
    { s1 with
      policy := { s1.policy with staged := .loading }
      command := { s1.command with loader := some { image := s.arg 1, part := none, inFlight := false } } }.markDirty
        .policy
  else s.answer .loadPolicy .badarg n

/-- R153, R154: the swap and the effects of a COMMIT carried out. -/
def State.commitPolicy (s : State) (p : Policy) : State :=
  let count := s.policy.commitCount + 1
  let s1 := { s with policy :=
    { s.policy with active := p, staged := .valid s.policy.active, commitCount := count } }
  ((s1.resetCounters.clearCounts).markDirty .policy).offer .event (.commit p.entries.length count s.time.tick)

/-- R153: refused NOSTAGED unless the staged table is VALID. -/
def bodyCommit (n : BitVec 8) (s : State) : State :=
  match s.policy.staged with
  | .valid p => (s.commitPolicy p).answer .commit .done n
  | .empty => s.answer .commit .nostaged n
  | .loading => s.answer .commit .nostaged n

/-- R156. -/
def bodyDiscard (n : BitVec 8) (s : State) : State :=
  ({ s with policy := { s.policy with staged := .empty } }.markDirtyIf (decide (s.policy.staged ≠ Staged.empty)) .policy).answer
    .discard .done n

/-- R96, R110: SET_CHAIN, which with argument 2 equal to 0 is an abort. -/
def bodySetChain (n : BitVec 8) (s : State) : State :=
  match streamArg (s.arg 1) with
  | none => s.answer .setChain .badarg n
  | some st =>
    if (s.arg 2).toNat % 16 ≠ 0 then s.answer .setChain .badarg n
    else if s.arg 2 = 0 then (s.startRunning .setChain n (some st)).abortWalker st
    else if (s.walker st).state.startable then (s.startChain st (s.arg 2)).answer .setChain .done n
    else s.answer .setChain .state n

/-- R106. -/
def bodyKick (n : BitVec 8) (s : State) : State :=
  match streamArg (s.arg 1) with
  | none => s.answer .kick .badarg n
  | some st =>
    if (s.walker st).state = .waiting then (s.refetch st).answer .kick .done n else s.answer .kick .state n

/-- R108: records carried by a burst in flight. -/
def Walker.recordsInFlight (w : Walker) : Nat :=
  match w.inFlight with
  | some (.burst rs) => rs.length
  | some .fetch => 0
  | some .status => 0
  | none => 0

/-- R108: the end point is judged by `settle`, in the command's own event where it holds there. -/
def bodyFlush (n : BitVec 8) (s : State) : State :=
  match streamArg (s.arg 1) with
  | none => s.answer .flush .badarg n
  | some st =>
    let w := s.walker st
    if w.state = .filling then
      (s.startRunning .flush n (some st)).setWalker st
        { w with flushCount := some ((s.stream st).fifo.length + w.recordsInFlight) }
    else s.answer .flush .state n

/-- R56: the trigger settings that CAPTURE_START's arguments give, or none where one is out of range. The trigger entry
keeps its former value unless ON_ENTRY is named. -/
def State.triggerArgs (s : State) : Option TriggerSettings :=
  match triggerArg (s.arg 1) with
  | none => none
  | some k =>
    if (k = .onEntry ∧ 31 < (s.arg 2).toNat) ∨ 65535 < (s.arg 3).toNat ∨ 4096 < (s.arg 4).toNat ∨ 1 < (s.arg 5).toNat
    then none
    else some
      { kind := k, entry := if k = .onEntry then (s.arg 2).toNat else s.capture.trigger.entry,
        quiet := (s.arg 3).toNat, limit := (s.arg 4).toNat, oneShot := decide (s.arg 5 = 1) }

/-- R56. -/
def bodyCaptureStart (n : BitVec 8) (s : State) : State :=
  match s.triggerArgs with
  | none => s.answer .captureStart .badarg n
  | some t =>
    if s.capture.state = .stopped then (s.startCapture t).answer .captureStart .done n
    else s.answer .captureStart .state n

/-- R55, R57: CAPTURE_STOP in either mode. -/
def bodyCaptureStop (n : BitVec 8) (s : State) : State :=
  if s.arg 1 = 0 then
    if s.capture.state = .stopped then s.answer .captureStop .state n else s.stopNow.answer .captureStop .done n
  else if s.arg 1 = 1 then
    if s.capture.state = .stopped ∨ s.capture.state = .stopping then s.answer .captureStop .state n
    else s.stopAtGroupEnd.answer .captureStop .done n
  else s.answer .captureStop .badarg n

/-- R85: the MARK record of a stream. -/
def markRecord (st : StreamId) (value tick : Word) : Record :=
  match st with
  | .event => .eventMark value tick
  | .capture => .captureMark value (tick.setWidth 16)

/-- R85. -/
def bodyMark (n : BitVec 8) (s : State) : State :=
  match streamArg (s.arg 1) with
  | none => s.answer .mark .badarg n
  | some st => (s.offer st (markRecord st (s.arg 2) s.time.tick)).answer .mark .done n

/-- Remove the notices of a mask from the raw set, and mark the notices section dirty if it changed (R165). -/
def State.clearNotices (s : State) (mask : BitVec 13) : State :=
  { s with notices := { s.notices with raw := s.notices.raw &&& ~~~mask } }.markDirtyIf
    (s.notices.raw &&& mask != 0) .notices

/-- R141: the command's own COMMAND_DONE is raised before the mask is applied. -/
def bodyAck (n : BitVec 8) (s : State) : State :=
  match noticeMaskArg (s.arg 1) with
  | none => s.answer .ack .badarg n
  | some m => (s.answer .ack .done n).clearNotices m

/-- R142, R166: replace the enable mask whole; the line follows at once (R164). -/
def State.setEnable (s : State) (mask : BitVec 13) : State :=
  { s with notices := { s.notices with
      enable := mask, line := noticeLevel s.notices.published mask } }.markDirtyIf (s.notices.enable != mask) .notices

/-- R142. -/
def bodyNoticeEnable (n : BitVec 8) (s : State) : State :=
  match noticeMaskArg (s.arg 1) with
  | none => s.answer .noticeEnable .badarg n
  | some m => (s.setEnable m).answer .noticeEnable .done n

/-- R143. -/
def bodyForceNotice (n : BitVec 8) (s : State) : State := (s.raise .forced).answer .forceNotice .done n

/-- R46. -/
def bodyClearDenials (n : BitVec 8) (s : State) : State :=
  (s.setDenial { s.denial with latch := none, more := false, sticky := 0 }).answer .clearDenials .done n

/-- R48: the area is a multiple of 64 and at most 0xFFFF_FF80. -/
def statsAddressOk (w : Word) : Bool := decide (w.toNat % 64 = 0) && decide (w.toNat ≤ 0xFFFFFF80)

/-- R48: any of the 33 counts is 65535. -/
def State.countsSaturated (s : State) : Bool :=
  s.policy.slotCounts.toList.any (fun c => c == Config.countMax) || s.denial.defaultCount == Config.countMax

/-- R48: the snapshot. -/
def State.statsSnapshot (s : State) (area : Word) : StatsEngine :=
  { area := area, slots := s.policy.slotCounts, default := s.denial.defaultCount, saturated := s.countsSaturated,
    granted := 0, answered := 0, error := false }

/-- R48. -/
def bodyStats (n : BitVec 8) (s : State) : State :=
  if statsAddressOk (s.arg 1) ∧ (s.arg 2).toNat ≤ 1 then
    let s1 := s.startRunning .stats n none
    let s2 := { s1 with command := { s1.command with stats := some (s.statsSnapshot (s.arg 1)) } }
    if s.arg 2 = 1 then s2.clearCounts else s2
  else s.answer .stats .badarg n

/-- R89: the accepted values of the four arguments. -/
def State.timingArgsOk (s : State) : Bool :=
  decide (1 ≤ (s.arg 1).toNat ∧ (s.arg 1).toNat ≤ 65536) && decide ((s.arg 2).toNat ≤ 65535) &&
    decide ((s.arg 3).toNat ≤ 65535) &&
    decide (64 ≤ (s.arg 4).toNat ∧ (s.arg 4).toNat ≤ 1008 ∧ (s.arg 4).toNat % 16 = 0)

/-- R89, R90: the four values and the prescale count; a lowered linger setting closes by `settle` in this event. -/
def bodySetTiming (n : BitVec 8) (s : State) : State :=
  if s.timingArgsOk then
    { s with time := { s.time with
        divider := (s.arg 1).toNat, prescale := 0, eventLinger := (s.arg 2).toNat, captureLinger := (s.arg 3).toNat,
        captureUrgent := (s.arg 4).toNat } }.answer .setTiming .done n
  else s.answer .setTiming .badarg n

/-- R144: streams (R92), capture unit (R75), walkers (R116) and arbiter (R126). -/
def State.resetRecording (s : State) : State :=
  (((((s.resetStream .event).resetStream .capture).resetCapture).resetWalker .event).resetWalker .capture).voidWalkers

/-- R144. -/
def bodyRecordReset (n : BitVec 8) (s : State) : State := s.resetRecording.answer .recordReset .done n

/-- The effect of each command (R134 stages 4 to 6). -/
def Command.body : Command → BitVec 8 → State → State
  | .refresh => bodyRefresh | .loadPolicy => bodyLoadPolicy | .commit => bodyCommit | .discard => bodyDiscard
  | .setChain => bodySetChain | .kick => bodyKick | .flush => bodyFlush | .captureStart => bodyCaptureStart
  | .captureStop => bodyCaptureStop | .mark => bodyMark | .ack => bodyAck | .noticeEnable => bodyNoticeEnable
  | .forceNotice => bodyForceNotice | .clearDenials => bodyClearDenials | .stats => bodyStats
  | .setTiming => bodySetTiming | .recordReset => bodyRecordReset

/-! ## Delivery -/

/-- R134: the command count rises by one, from 255 to 0. -/
def State.counted (s : State) : State :=
  { s with command := { s.command with count := s.command.count + 1 } }

/-- R134: the command count rises, its new value is the command number, and the delivery is judged: BUSY, PRIVILEGE,
UNKNOWN, and then the command's own stages. -/
def State.deliver (s : State) (code : BitVec 8) (p : Privilege) (command : Option Command) : State :=
  let n := s.command.count + 1
  let s1 := s.counted
  if s.busy then s1.setResult code .busy 0 n
  else if p = .user then s1.setResult code .privilege 0 n
  else
    match command with
    | none => s1.setResult code .unknown 0 n
    | some c => c.body n s1

/-- A delivery of a named command. -/
def deliverCommand (c : Command) (p : Privilege) (s : State) : State := s.deliver c.code p (some c)

/-- A delivery of any code (R133, R178). -/
def deliverCode (code : BitVec 8) (p : Privilege) (s : State) : State := s.deliver code p (commandOf code)

/-! ## The argument shadow and the command beat -/

/-- R131: one beat of a supervisor write updates the shadow word it matches. -/
def shadowBeat (width : Nat) (anchorSel : BitVec 4) (shadow : Vector Word 7) (b : CompletedBeat) : Vector Word 7 :=
  Vector.ofFn fun i : Fin 7 =>
    if b.matchesAnchor width anchorSel (i.val + 1) then mergeBytes shadow[i] b.enables b.data else shadow[i]

/-- R131: all matching beats of a write completion, when its privilege is SUPERVISOR. -/
def State.takeArguments (s : State) (wc : WriteCompletion) : State :=
  if wc.privilege = .supervisor then
    { s with command := { s.command with
        shadow := wc.beats.foldl (shadowBeat s.policy.active.width s.anchorSel) s.command.shadow } }
  else s

/-- R133: the command beat of a write completion: it matches anchor word 0 with all four enables set. -/
def State.commandBeat (s : State) (wc : WriteCompletion) : Option CompletedBeat :=
  wc.beats.find? fun b => b.matchesAnchor s.policy.active.width s.anchorSel 0 && b.enables == 0b1111#4

/-- R133: the command code, the low 8 bits of the command beat's data. -/
def commandCode (b : CompletedBeat) : BitVec 8 := b.data.extractLsb' 0 8

/-- R131, R133: the command unit takes a write completion offered to it: argument beats first, then the delivery. -/
def State.commandUnit (wc : WriteCompletion) (s : State) : State :=
  match s.commandBeat wc with
  | some b => deliverCode (commandCode b) wc.privilege (s.takeArguments wc)
  | none => s.takeArguments wc

/-! ## Meanings -/

/-- ANCHOR_ARGUMENT_WRITE (R131). -/
def execAnchorArgumentWrite (wc : WriteCompletion) (s : State) : Host.Outcome State Fault Refusal :=
  if wc.wellFormed then event s.live (fun t => t.takeArguments wc) s else .refused .illFormed

/-- UNKNOWN_COMMAND (R134 stage 3). -/
def execUnknownCommand (p : Privilege) (code : BitVec 8) (s : State) : Host.Outcome State Fault Refusal :=
  if namesCommand code then .refused .illFormed else event s.live (deliverCode code p) s

/-- REFRESH (R138). -/
def execRefresh (p : Privilege) (s : State) : Host.Outcome State Fault Refusal :=
  event s.live (deliverCommand .refresh p) s

/-- LOAD_POLICY (R147). -/
def execLoadPolicy (p : Privilege) (s : State) : Host.Outcome State Fault Refusal :=
  event s.live (deliverCommand .loadPolicy p) s

/-- COMMIT (R153). -/
def execCommit (p : Privilege) (s : State) : Host.Outcome State Fault Refusal :=
  event s.live (deliverCommand .commit p) s

/-- DISCARD (R156). -/
def execDiscard (p : Privilege) (s : State) : Host.Outcome State Fault Refusal :=
  event s.live (deliverCommand .discard p) s

/-- SET_CHAIN (R96): code 0x05; which of R96 and R110 applies is the shadow's argument 2. -/
def execSetChain (p : Privilege) (s : State) : Host.Outcome State Fault Refusal :=
  event s.live (deliverCommand .setChain p) s

/-- SET_CHAIN_ABORT (R110): the same code 0x05, with argument 2 equal to 0. -/
def execSetChainAbort (p : Privilege) (s : State) : Host.Outcome State Fault Refusal :=
  event s.live (deliverCommand .setChain p) s

/-- KICK (R106). -/
def execKick (p : Privilege) (s : State) : Host.Outcome State Fault Refusal :=
  event s.live (deliverCommand .kick p) s

/-- FLUSH (R108). -/
def execFlush (p : Privilege) (s : State) : Host.Outcome State Fault Refusal :=
  event s.live (deliverCommand .flush p) s

/-- CAPTURE_START (R56). -/
def execCaptureStart (p : Privilege) (s : State) : Host.Outcome State Fault Refusal :=
  event s.live (deliverCommand .captureStart p) s

/-- CAPTURE_STOP_NOW (R57): code 0x09; the mode is the shadow's argument 1. -/
def execCaptureStopNow (p : Privilege) (s : State) : Host.Outcome State Fault Refusal :=
  event s.live (deliverCommand .captureStop p) s

/-- CAPTURE_STOP_AT_GROUP_END (R57): the same code 0x09, with argument 1 equal to 1. -/
def execCaptureStopAtGroupEnd (p : Privilege) (s : State) : Host.Outcome State Fault Refusal :=
  event s.live (deliverCommand .captureStop p) s

/-- MARK (R85). -/
def execMark (p : Privilege) (s : State) : Host.Outcome State Fault Refusal :=
  event s.live (deliverCommand .mark p) s

/-- ACK (R141). -/
def execAck (p : Privilege) (s : State) : Host.Outcome State Fault Refusal :=
  event s.live (deliverCommand .ack p) s

/-- NOTICE_ENABLE (R142). -/
def execNoticeEnable (p : Privilege) (s : State) : Host.Outcome State Fault Refusal :=
  event s.live (deliverCommand .noticeEnable p) s

/-- FORCE_NOTICE (R143). -/
def execForceNotice (p : Privilege) (s : State) : Host.Outcome State Fault Refusal :=
  event s.live (deliverCommand .forceNotice p) s

/-- CLEAR_DENIALS (R46). -/
def execClearDenials (p : Privilege) (s : State) : Host.Outcome State Fault Refusal :=
  event s.live (deliverCommand .clearDenials p) s

/-- STATS (R48). -/
def execStats (p : Privilege) (s : State) : Host.Outcome State Fault Refusal :=
  event s.live (deliverCommand .stats p) s

/-- SET_TIMING (R89). -/
def execSetTiming (p : Privilege) (s : State) : Host.Outcome State Fault Refusal :=
  event s.live (deliverCommand .setTiming p) s

/-- RECORD_RESET (R144). -/
def execRecordReset (p : Privilege) (s : State) : Host.Outcome State Fault Refusal :=
  event s.live (deliverCommand .recordReset p) s

end Sys2Proof.Machine
end

