-- ==== Sys2Proof/Machine/Arbiter.lean ====
section
/-! DEFINITION. Memory port arbitration (chapter 7): which requests stand, the winner of a grant, the transaction it
issues, MEMORY_GRANT, and the answers that belong to no owner (DRAIN_RESPONSE, VOID_ANSWER_DISCARD). -/

namespace Sys2Proof.Machine

/-! ## Requests (R119) -/

/-- A walker in FETCHING with nothing in flight requests its descriptor fetch (R97). -/
def Walker.wantsFetch (w : Walker) : Bool := decide (w.state = .fetching) && w.inFlight.isNone

/-- R100: a record burst is requested while FILLING with nothing in flight, when the head record fits. -/
def Walker.wantsBurst (w : Walker) (fifo : List Record) : Bool :=
  w.atRest &&
    (match fifo with
     | r :: _ => w.fits r
     | [] => false)

/-- R104, R112, R113: a status write is requested in CLOSING, and in ABORTING once a close reason is pending. -/
def Walker.wantsStatus (w : Walker) : Bool :=
  w.inFlight.isNone &&
    (decide (w.state = .closing) || (decide (w.state = .aborting) && w.closeReason.isSome))

/-- Does the stream's walker have a request standing (R95)? -/
def State.walkerStands (s : State) (st : StreamId) : Bool :=
  (s.walker st).wantsFetch || (s.walker st).wantsBurst (s.stream st).fifo || (s.walker st).wantsStatus

/-- A queue entry is UNSENT (R30). -/
def QueueEntry.isUnsent (e : QueueEntry) : Bool := decide (e.state = .unsent)

/-- The loader or the statistics engine has a transaction to request (R49, R148). -/
def CommandUnit.stands (c : CommandUnit) : Bool :=
  (match c.loader with
   | some l => !l.inFlight
   | none => false) ||
    (match c.stats with
     | some e => decide (e.granted < 2)
     | none => false)

/-- Does the requester have a request standing (R119)? -/
def State.stands (s : State) : Requester → Bool
  | .pass => s.queue.any QueueEntry.isUnsent
  | .report => s.report.dirty != 0 && s.report.inFlight.isNone
  | .event => s.walkerStands .event
  | .command => s.command.stands
  | .capture => s.walkerStands .capture

/-- An internal request stands (R121). -/
def State.internalStands (s : State) : Bool :=
  s.stands .report || s.stands .event || s.stands .command || s.stands .capture

/-! ## The winner (R121) -/

/-- PASS is passed over when the run count is 8 and an internal request stands. -/
def State.passYields (s : State) : Bool :=
  decide (Config.fairnessLimit ≤ s.arbiter.fairness) && s.internalStands

/-- The first of the seven ranks that names a standing request. -/
def State.winner (s : State) : Option Requester :=
  if s.stands .event && s.urgent .event then some .event
  else if s.stands .capture && s.urgent .capture then some .capture
  else if s.stands .pass && !s.passYields then some .pass
  else if s.stands .report then some .report
  else if s.stands .event then some .event
  else if s.stands .command then some .command
  else if s.stands .capture then some .capture
  else none

/-- The fairness run count after a grant (R121). -/
def State.fairnessAfter (s : State) (r : Requester) : Nat :=
  match r with
  | .pass => if s.internalStands then min Config.fairnessLimit (s.arbiter.fairness + 1) else 0
  | .report => 0 | .event => 0 | .command => 0 | .capture => 0

/-! ## The transactions (R122) -/

/-- An internal read: SUPERVISOR, master 0 (R122). -/
def internalRead (address : Word) (beats : Nat) : Request :=
  { address := address, kind := .read, privilege := .supervisor, master := 0, beats := beats, writeData := [] }

/-- An internal write: SUPERVISOR, master 0, every byte enable set (R122, R171). -/
def internalWrite (address : Word) (words : List Word) : Request :=
  { address := address, kind := .write, privilege := .supervisor, master := 0, beats := words.length,
    writeData := words.map (fun w => { data := w, enables := 0b1111#4 }) }

/-- R30: the oldest UNSENT transaction is issued as taken and moves to AT_MEMORY. -/
def State.grantPass (s : State) : State :=
  match s.queue.find? QueueEntry.isUnsent with
  | some e =>
    { s with queue := updateFirst QueueEntry.isUnsent (fun e => { e with state := .atMemory }) s.queue }.issue .pass
      e.request
  | none => s

/-- R160: the lowest-numbered dirty section is written with its values as they stand. -/
def State.grantReport (s : State) : State :=
  match Section.all.find? s.isDirty with
  | some c =>
    { s with report := { s.report with
        dirty := s.report.dirty &&& ~~~c.mask
        inFlight := some { section_ := c, raw := if c = Section.notices then some s.notices.raw else none } } }.issue .report
      (internalWrite (anchorAddress s.anchorSel c.firstWord) (s.sectionWords c))
  | none => s

/-- R100: the whole records from the head that fit a budget of words. -/
def recordsThatFit (budget : Nat) : List Record → List Record
  | [] => []
  | r :: rs => if r.words ≤ budget then r :: recordsThatFit (budget - r.words) rs else []

/-- R84, R100: the records a burst granted now carries: within 16 words and within the remaining space. -/
def State.burstRecords (s : State) (st : StreamId) : List Record :=
  recordsThatFit (min Config.burstWords ((s.walker st).remaining / 4)) (s.stream st).fifo

/-- The address of a record burst: the buffer address plus the fill offset (R95). -/
def Walker.burstAddress (w : Walker) : Word :=
  (match w.copy with
   | some c => c.buffer
   | none => 0) + BitVec.ofNat 32 w.fillOffset

/-- Put a transaction in flight at a walker. -/
def State.setInFlight (s : State) (st : StreamId) (t : WalkerTx) : State :=
  s.setWalker st { s.walker st with inFlight := some t }

/-- R100: a record burst takes its records from the FIFO and is issued. -/
def State.grantBurst (s : State) (st : StreamId) : State :=
  let rs := s.burstRecords st
  let x := s.stream st
  ((s.setStream st { x with fifo := x.fifo.drop rs.length }).setInFlight st (.burst rs)).issue st.requester
    (internalWrite (s.walker st).burstAddress (rs.map Record.encode).flatten)

/-- R104: the status word with the values standing at the grant. -/
def Walker.statusData (w : Walker) : Word := statusWord (w.closeReason.getD .full) w.gapPresent w.fillOffset

/-- R95: the walker's standing request is granted: fetch, burst or status write. -/
def State.grantWalker (s : State) (st : StreamId) : State :=
  let w := s.walker st
  if w.wantsFetch then (s.setInFlight st .fetch).issue st.requester (internalRead w.current 4)
  else if w.wantsBurst (s.stream st).fifo then s.grantBurst st
  else (s.setInFlight st .status).issue st.requester (internalWrite (w.current + 12) [w.statusData])

/-- R148: the address and beats of the loader's next read. -/
def Loader.nextRead (l : Loader) : Request :=
  match l.part with
  | none => internalRead l.image 8
  | some p =>
    let k := p.policy.entries.length
    internalRead (l.image + BitVec.ofNat 32 (32 + 32 * k)) (if k + 1 = p.count then 8 else 16)

/-- R49: the statistics engine's next burst. -/
def StatsEngine.nextBurst (e : StatsEngine) : Request :=
  if e.granted = 0 then internalWrite e.area e.firstBurst else internalWrite (e.area + 64) e.secondBurst

/-- R49, R148: the loader's read or the statistics engine's burst is issued; the two are never active together. -/
def State.grantCommand (s : State) : State :=
  match s.command.loader with
  | some l =>
    { s with command := { s.command with loader := some { l with inFlight := true } } }.issue .command l.nextRead
  | none =>
    match s.command.stats with
    | some e =>
      { s with command := { s.command with stats := some { e with granted := e.granted + 1 } } }.issue .command
        e.nextBurst
    | none => s

/-- The owner takes the grant (R122). -/
def State.grantTo (s : State) (r : Requester) : State :=
  match r with
  | .pass => s.grantPass
  | .report => s.grantReport
  | .event => s.grantWalker .event
  | .command => s.grantCommand
  | .capture => s.grantWalker .capture

/-- R122: the grant and the fairness run count after it. -/
def State.grant (r : Requester) (s : State) : State :=
  let s1 := s.grantTo r
  { s1 with arbiter := { s1.arbiter with fairness := s.fairnessAfter r } }

/-- R120: the port is open to a grant. -/
def State.grantOpen (s : State) : Bool :=
  s.live && decide (s.arbiter.drain = 0) && decide (s.arbiter.issued.length < Config.issueLimit)

/-! ## Meanings -/

/-- MEMORY_GRANT (R120 to R122). -/
def execMemoryGrant (s : State) : Host.Outcome State Fault Refusal :=
  match s.winner with
  | some r => event s.grantOpen (State.grant r) s
  | none => .next s

/-- DRAIN_RESPONSE (R38): an answer while the drain count is above 0 is discarded and lowers it by one, also while
RESET is asserted, whatever its code and data (log entry 25). -/
def execDrainResponse (_ans : MemResponse) (s : State) : Host.Outcome State Fault Refusal :=
  event (decide (0 < s.arbiter.drain)) (fun t => { t with arbiter := { t.arbiter with drain := t.arbiter.drain - 1 } }) s

/-- R123: an answer while the drain count is 0 that reaches no owner: the head is void, or the issue list is empty. -/
def State.answerUnowned (s : State) : Bool :=
  decide (s.arbiter.drain = 0) &&
    (match s.arbiter.issued with
     | e :: _ => e.voided
     | [] => true)

/-- VOID_ANSWER_DISCARD (R123): the answer is discarded, and a voided entry leaves the issue list. The answer's code and
data are not looked at, also where a voided read is answered with another number of data beats than was issued, which R26
forbids (DESIGN CHOICE, log entry 25). -/
def execVoidAnswerDiscard (_ans : MemResponse) (s : State) : Host.Outcome State Fault Refusal :=
  event s.answerUnowned State.popIssued s

end Sys2Proof.Machine
end

