-- ==== Sys2Proof/Machine/PassThrough.lean ====
section
/-! DEFINITION. The pass-through path (chapter 2): DECISION_POINT, PASS_MEMORY_COMPLETION with the write completions
offered to the watchers, and DELIVERY_END. -/

namespace Sys2Proof.Machine

/-- R29: the head delivers as soon as its answer is there: a DENIED or HELD entry that is the head is DELIVERING. -/
def promoteHead : List QueueEntry → List QueueEntry
  | [] => []
  | e :: es =>
    (match e.state with
     | .denied => { e with state := .delivering }
     | .held => { e with state := .delivering }
     | .unsent => e | .atMemory => e | .delivering => e) :: es

/-! ## Decision point -/

/-- The state in which a transaction enters the queue (R29). -/
def Verdict.entryState : Verdict → TxState
  | .deny _ => .denied
  | .pass _ => .unsent

/-- Does the capture unit capture the access in its decision event (R59, R60)? -/
def State.capturesDecision (s : State) (d : DecisionRecord) : Bool :=
  match d.verdict, d.entry with
  | .pass (some _), some k => (s.fireOnEntry k).capturesNow k
  | .pass (some _), none => false
  | .pass none, _ => false
  | .deny _, _ => false

/-- R28, R61: the transaction enters at the tail with its decision record and capture link. -/
def State.enqueue (s : State) (r : Request) (d : DecisionRecord) : State :=
  { s with queue := promoteHead (s.queue ++
      [{ request := r, decision := d, state := d.verdict.entryState, captureLink := s.capturesDecision d,
         response := none }]) }

/-- R42, R51, R58: a DENY decision. The DENIAL record and the trigger's CAPTURE_STATE record stand in no order. -/
def State.takeDenial (i : DenialInfo) (t : DenialTerms) (s : State) : State :=
  let s1 := s.accountDenial i
  if t.report && s1.denialTriggers then inFreeOrder (State.reportDenial i t) State.fireOnDenial s1
  else (s1.reportDenial i t).fireOnDenial

/-- R59, R60: an eligible PASS decision under entry k at the capture unit. -/
def State.takeEligible (s : State) (r : Request) (d : DecisionRecord) (e : Eligibility) (k : Nat) : State :=
  (s.fireOnEntry k).consider r d e k

/-- R28: take a request and judge it, all in one event. No record of another event comes between the records it offers, as
R82 would allow between the two CAPTURE_STATE records of one decision, or a DENIAL and its CAPTURE_STATE (DESIGN CHOICE,
log entry 23). -/
def State.takeRequest (r : Request) (s : State) : State :=
  let d := s.decisionRecord r
  let s1 := s.enqueue r d
  match d.verdict, d.entry with
  | .deny t, _ => s1.takeDenial (denialInfo r d t) t
  | .pass (some e), some k => s1.takeEligible r d e k
  | .pass (some _), none => s1
  | .pass none, _ => s1

/-- R28: the port takes a request while the queue holds fewer than 4 transactions. -/
def State.portOpen (s : State) : Bool := s.live && decide (s.queue.length < Config.queueCapacity)

/-- DECISION_POINT (R28). A request that meets a full queue is held off: nothing is taken or judged. -/
def execDecisionPoint (r : Request) (s : State) : Host.Outcome State Fault Refusal :=
  if r.wellFormed then event s.portOpen (State.takeRequest r) s else .refused .illFormed

/-! ## Delivery -/

/-- The response of a transaction: the part's own for a denied one (R33), memory's as stored for a forwarded one
(R34). -/
def QueueEntry.answer (e : QueueEntry) : Option MemResponse :=
  match e.decision.verdict with
  | .deny t => some (denialAnswer e.request t)
  | .pass _ => e.response

/-- The response being handed to the processor: the head's, while it is DELIVERING (R32). -/
def State.delivering (s : State) : Option MemResponse :=
  match s.queue with
  | e :: _ => if e.state = .delivering then e.answer else none
  | [] => none

/-- R32: the head is DELIVERING, so its response can be accepted whole. -/
def State.headDelivers (s : State) : Bool :=
  match s.queue with
  | e :: _ => decide (e.state = .delivering)
  | [] => false

/-- R32: the head leaves with its response handed over, and the next entry becomes the head. -/
def State.endDelivery (s : State) : State :=
  { s with queue := promoteHead s.queue.tail, processorPort := s.delivering }

/-- DELIVERY_END (R32). -/
def execDeliveryEnd (s : State) : Host.Outcome State Fault Refusal :=
  event (s.live && s.headDelivers) State.endDelivery s

/-! ## Memory completion -/

/-- A queue entry is AT_MEMORY. -/
def QueueEntry.isAtMemory (e : QueueEntry) : Bool := decide (e.state = .atMemory)

/-- What is stored of memory's response: the code and, for a read or fetch, the data beats (R31, R25). -/
def storedResponse (k : AccessKind) (ans : MemResponse) : MemResponse :=
  { code := ans.code
    data := match k with
      | .write => []
      | .fetch => ans.data
      | .read => ans.data }

/-- R31: the response is stored with the oldest AT_MEMORY entry, which moves to HELD, or to DELIVERING at the head. -/
def State.storeResponse (s : State) (ans : MemResponse) : State :=
  { s with queue := promoteHead (updateFirst QueueEntry.isAtMemory
      (fun e => { e with state := .held, response := some (storedResponse e.request.kind ans) }) s.queue) }

/-- R35: a completion with ERROR raises MEMFAULT and offers one MEMFAULT record. -/
def State.memoryFault (s : State) (r : Request) : State :=
  (s.raise .memfault).offer .event (.memfault r.address r.kind r.privilege r.master s.time.tick)

/-- R36: the write completion of a pass-through write, its addresses folded with the W of the memory completion. -/
def writeCompletionOf (width : Nat) (r : Request) : WriteCompletion :=
  { privilege := r.privilege, master := r.master
    beats := r.writeData.zipIdx.map fun b =>
      { address := BitVec.ofNat 32 (foldAddress width (r.beatAddress b.2)), enables := b.1.enables, data := b.1.data } }

/-- Where the command delivered by a completing write is taken among the other effects of its event, which stand in no
order with it (R31, R82): `captureSteps` of the capture unit's two offers (the record, then the GROUP_END) come
before it, and the walkers before it or after it. -/
structure CompletionOrder where
  captureSteps : Nat
  walkersFirst : Bool
  deriving DecidableEq, Repr

/-- The capture unit's two steps at the completion of a captured transaction (R66): the record, the GROUP_END. -/
def captureStep (ans : MemResponse) (link : Bool) (step : Nat) (s : State) : State :=
  if link then (if step = 0 then s.takeCaptured ans else s.endDueGroups) else s

/-- R31, R36: the effects of an OKAY write's completion on the capture unit and the watchers, in a given order. -/
def State.offerWrite (o : CompletionOrder) (width : Nat) (wc : WriteCompletion) (ans : MemResponse) (link : Bool)
    (s : State) : State :=
  let walkers := State.offerToWalkers width wc
  let s1 := if 1 ≤ o.captureSteps then captureStep ans link 0 s else s
  let s2 := if 2 ≤ o.captureSteps then captureStep ans link 1 s1 else s1
  let s3 := if o.walkersFirst then walkers s2 else s2
  let s4 := s3.commandUnit wc
  let s5 := if o.walkersFirst then s4 else walkers s4
  let s6 := if 1 ≤ o.captureSteps then s5 else captureStep ans link 0 s5
  if 2 ≤ o.captureSteps then s6 else captureStep ans link 1 s6

/-- The order that three free choices give (log entry 4). -/
def State.freeOrder (s : State) : CompletionOrder :=
  { captureSteps :=
      if Config.freeChoice s.freeCount then 2 else if Config.freeChoice (s.freeCount + 1) then 1 else 0
    walkersFirst := Config.freeChoice (s.freeCount + 2) }

/-- The order taken where nothing depends on it. -/
def CompletionOrder.standard : CompletionOrder := { captureSteps := 2, walkersFirst := true }

/-- A write that delivers a command draws three free choices if the order can matter: it is captured, or a walker it
covers is WAITING. -/
def State.orderMatters (s : State) (width : Nat) (wc : WriteCompletion) (link : Bool) : Bool :=
  (s.commandBeat wc).isSome &&
    (link || [StreamId.event, .capture].any (fun st =>
      decide ((s.walker st).state = .waiting) && wc.coversStatus width (s.walker st).current))

/-- R31, R36: an OKAY write's completion. -/
def State.completeWrite (s : State) (r : Request) (ans : MemResponse) (link : Bool) : State :=
  let width := s.policy.active.width
  let wc := writeCompletionOf width r
  if s.orderMatters width wc link then
    (s.drawn 3).offerWrite s.freeOrder width wc ans link
  else s.offerWrite .standard width wc ans link

/-- R31: the effects of a memory completion beside storing the response. -/
def State.completionEffects (s : State) (r : Request) (ans : MemResponse) (link : Bool) : State :=
  match ans.code, r.kind with
  | .error, _ => captureStep ans link 1 (captureStep ans link 0 (s.memoryFault r))
  | .okay, .write => s.completeWrite r ans link
  | .okay, .fetch => captureStep ans link 1 (captureStep ans link 0 s)
  | .okay, .read => captureStep ans link 1 (captureStep ans link 0 s)

/-- R31: a forwarded transaction's memory completion. -/
def State.completePass (q : QueueEntry) (ans : MemResponse) (s : State) : State :=
  (s.popIssued.storeResponse ans).completionEffects q.request ans q.captureLink

/-- The forwarded transaction that an answer to PASS completes: the oldest AT_MEMORY entry (R26, R31). -/
def State.passAnswering (s : State) : Option (IssueEntry × QueueEntry) :=
  match s.answering with
  | some e =>
    if e.requester = .pass then (s.queue.find? QueueEntry.isAtMemory).map (fun q => (e, q)) else none
  | none => none

/-- PASS_MEMORY_COMPLETION (R31). -/
def execPassMemoryCompletion (ans : MemResponse) (s : State) : Host.Outcome State Fault Refusal :=
  match s.passAnswering with
  | some (e, q) => if e.whole ans then event s.live (State.completePass q ans) s else .fault .memoryBeats
  | none => .next s

end Sys2Proof.Machine
end

