-- ==== Sys2Proof/Machine/Completions.lean ====
section
/-! DEFINITION. The memory completions of internal transactions (R123): the walkers' three, the report writer's, the
statistics engine's and the loader's. -/

namespace Sys2Proof.Machine

/-! ## Walkers -/

/-- The stream whose walker's transaction an answer completes (R123): the head of the issue list is its requester's, and
the walker has a transaction in flight. -/
def State.walkerAnswering (s : State) : Option (IssueEntry × StreamId × WalkerTx) :=
  match s.answering with
  | some e =>
    match e.requester with
    | .event => s.eventWalker.inFlight.map (fun t => (e, .event, t))
    | .capture => s.captureWalker.inFlight.map (fun t => (e, .capture, t))
    | .pass => none | .report => none | .command => none
  | none => none

/-- DESCRIPTOR_FETCH_COMPLETION (R98, R99, R111). -/
def execDescriptorFetchCompletion (ans : MemResponse) (s : State) : Host.Outcome State Fault Refusal :=
  match s.walkerAnswering with
  | some (e, st, .fetch) =>
    if e.whole ans then event s.live (fun t => t.popIssued.takeFetch st ans) s else .fault .memoryBeats
  | some (_, _, .burst _) => .next s
  | some (_, _, .status) => .next s
  | none => .next s

/-- RECORD_BURST_COMPLETION (R101, R102, R112). -/
def execRecordBurstCompletion (code : RespCode) (s : State) : Host.Outcome State Fault Refusal :=
  match s.walkerAnswering with
  | some (_, st, .burst rs) => event s.live (fun t => t.popIssued.takeBurst st rs code) s
  | some (_, _, .fetch) => .next s
  | some (_, _, .status) => .next s
  | none => .next s

/-- R104, R112, R113: a status write's completion, by the walker's state. -/
def State.takeStatus (s : State) (st : StreamId) (code : RespCode) : State :=
  let s1 := s.setWalker st { s.walker st with inFlight := none }
  if (s.walker st).state = .aborting then s1.abortCloseCompleted st code
  else
    match (s.walker st).copy with
    | some c => s1.closeCompleted st c code
    | none => s1

/-- STATUS_WRITE_COMPLETION (R104, R112, R113). -/
def execStatusWriteCompletion (code : RespCode) (s : State) : Host.Outcome State Fault Refusal :=
  match s.walkerAnswering with
  | some (_, st, .status) => event s.live (fun t => t.popIssued.takeStatus st code) s
  | some (_, _, .fetch) => .next s
  | some (_, _, .burst _) => .next s
  | none => .next s

/-! ## Report writer -/

/-- R163, R164: publication: the published set takes the raw set the write carried, and the line follows. -/
def State.publish (s : State) (carried : Option (BitVec 13)) : State :=
  match carried with
  | some raw =>
    { s with notices := { s.notices with published := raw, line := noticeLevel raw s.notices.enable } }
  | none => s

/-- R161: an ERROR sets the report-fault flag, and setting a clear flag marks the notices section dirty. -/
def State.reportFault (s : State) : State :=
  { s with report := { s.report with fault := true } }.markDirtyIf (!s.report.fault) .notices

/-- R161: a section write's completion. -/
def State.reportCompleted (w : ReportWrite) (code : RespCode) (s : State) : State :=
  let s1 := { s with report := { s.report with inFlight := none } }
  let s2 := match code with
    | .okay => s1
    | .error => s1.reportFault
  s2.publish w.raw

/-- The section write that an answer to REPORT completes. -/
def State.reportAnswering (s : State) : Option ReportWrite :=
  match s.answering with
  | some e => if e.requester = .report then s.report.inFlight else none
  | none => none

/-- REPORT_WRITE_COMPLETION (R161, R163). -/
def execReportWriteCompletion (code : RespCode) (s : State) : Host.Outcome State Fault Refusal :=
  match s.reportAnswering with
  | some w => event s.live (fun t => t.popIssued.reportCompleted w code) s
  | none => .next s

/-! ## Statistics engine -/

/-- R49: a burst's completion; the second ends STATS with DONE, or MEMERR if either completed ERROR. -/
def State.statsCompleted (g : StatsEngine) (code : RespCode) (s : State) : State :=
  let error := g.error || decide (code = .error)
  if 1 ≤ g.answered then
    { s with command := { s.command with stats := none } }.finish none (if error then .memerr else .done) 0
  else
    { s with command := { s.command with stats := some { g with answered := g.answered + 1, error := error } } }

/-- The statistics engine, while a burst it was granted is unanswered and the answer is COMMAND's. -/
def State.statsAnswering (s : State) : Option StatsEngine :=
  match s.answering with
  | some e =>
    if e.requester = .command ∧ s.command.loader.isNone then
      s.command.stats.filter (fun g => decide (g.answered < g.granted))
    else none
  | none => none

/-- STATS_BURST_COMPLETION (R49). -/
def execStatsBurstCompletion (code : RespCode) (s : State) : Host.Outcome State Fault Refusal :=
  match s.statsAnswering with
  | some g => event s.live (fun t => t.popIssued.statsCompleted g code) s
  | none => .next s

/-! ## Policy loader -/

/-- R151: a load ends: the staged state is final, the loader is idle, the policy section is marked dirty, and the
command completes. -/
def State.endLoad (s : State) (staged : Staged) (r : Result) (fieldIndex : Nat) : State :=
  ({ s with
      policy := { s.policy with staged := staged }
      command := { s.command with loader := none } }.markDirty .policy).finish none r fieldIndex

/-- R149: the header read's completion with OKAY. -/
def State.takeHeader (s : State) (l : Loader) (ws : List Word) : State :=
  match headerFailure ws with
  | some i => s.endLoad .empty .invalid i
  | none =>
    let count := (wordAt ws 1).toNat
    if count = 0 then s.endLoad (.valid (headerPolicy ws)) .done 0
    else
      { s with command := { s.command with
          loader := some { l with part := some { count := count, policy := headerPolicy ws }, inFlight := false } } }

/-- R150: check the entry records of a burst in order; the policy with those that pass, or the image word number of the
first failing word. -/
def checkEntries (p : Policy) : List (List Word) → Policy ⊕ Nat
  | [] => .inl p
  | ws :: rest =>
    match entryFailure p.width ws with
    | some off => .inr (8 + 8 * p.entries.length + off)
    | none => checkEntries { p with entries := p.entries ++ [entryOf ws] } rest

/-- The one or two entry records a burst carries (R148). -/
def entryRecords (ws : List Word) : List (List Word) := if ws.length ≤ 8 then [ws] else [ws.take 8, ws.drop 8]

/-- R150: an entry burst's completion with OKAY. -/
def State.takeEntries (s : State) (l : Loader) (part : LoadedPart) (ws : List Word) : State :=
  match checkEntries part.policy (entryRecords ws) with
  | .inr i => s.endLoad .empty .invalid i
  | .inl p =>
    if p.entries.length = part.count then s.endLoad (.valid p) .done 0
    else
      { s with command := { s.command with
          loader := some { l with part := some { part with policy := p }, inFlight := false } } }

/-- R149 to R151: an image read's completion. -/
def State.policyRead (l : Loader) (ans : MemResponse) (s : State) : State :=
  match ans.code with
  | .error => s.endLoad .empty .memerr 0
  | .okay =>
    match l.part with
    | none => s.takeHeader l ans.data
    | some part => s.takeEntries l part ans.data

/-- The loader, while its read is unanswered and the answer is COMMAND's. -/
def State.loaderAnswering (s : State) : Option (IssueEntry × Loader) :=
  match s.answering with
  | some e =>
    if e.requester = .command then (s.command.loader.filter (·.inFlight)).map (fun l => (e, l)) else none
  | none => none

/-- POLICY_READ_COMPLETION (R149 to R151). -/
def execPolicyReadCompletion (ans : MemResponse) (s : State) : Host.Outcome State Fault Refusal :=
  match s.loaderAnswering with
  | some (e, l) => if e.whole ans then event s.live (fun t => t.popIssued.policyRead l ans) s else .fault .memoryBeats
  | none => .next s

end Sys2Proof.Machine
end

