-- ==== Sys2Proof/Machine/TimeBase.lean ====
section
/-! DEFINITION. The time base (R87) and the events of its advance: CLOCK, TICK_ADVANCE, QUIET_TIMER_EXPIRY and
LINGER_CLOSE. The last three are clocks at which an advance comes (log entry 11). -/

namespace Sys2Proof.Machine

/-- R87: the tick count advances and the prescale count returns to 0; the quiet timer (R63) and each walker's linger age
(R103) take the advance. -/
def State.advance (s : State) : State :=
  let s1 := { s with time := { s.time with tick := s.time.tick + 1, prescale := 0 } }
  ((s1.ageWalker .event).ageWalker .capture).tickQuiet

/-- R87: one clock. -/
def State.clockTick (s : State) : State :=
  if s.advanceDue then s.advance
  else { s with time := { s.time with prescale := s.time.prescale + 1 } }

/-- CLOCK (R87). The time base stands while RESET is asserted: "The tick count starts at 0 at the release of RESET". -/
def execClock (s : State) : Host.Outcome State Fault Refusal := event s.live State.clockTick s

/-- TICK_ADVANCE (R87): the clock at which the prescale count reaches the divider. -/
def execTickAdvance (s : State) : Host.Outcome State Fault Refusal := event (s.live && s.advanceDue) State.advance s

/-- QUIET_TIMER_EXPIRY (R63): the advance at which the quiet timer reaches 0. -/
def execQuietTimerExpiry (s : State) : Host.Outcome State Fault Refusal :=
  event (s.live && s.advanceDue && s.quietDue) State.advance s

/-- R103: the LINGER condition holds for the stream's walker at rest. -/
def State.lingerHolds (s : State) (st : StreamId) : Bool :=
  (s.walker st).atRest && (s.walker st).lingerCondition (s.lingerSetting st)

/-- R103: an advance is due and brings the walker's linger age to its setting. -/
def State.lingerDue (s : State) (st : StreamId) : Bool := s.advanceDue && (s.ageWalker st).lingerHolds st

/-- R103: the event of a linger close: at once where the condition stands, and otherwise the advance that brings it. -/
def State.lingerEvent (st : StreamId) (s : State) : State := if s.lingerHolds st then s else s.advance

/-- LINGER_CLOSE (R103): the close itself is `settle`'s, at the end of the event. -/
def execLingerClose (st : StreamId) (s : State) : Host.Outcome State Fault Refusal :=
  event (s.live && (s.lingerHolds st || s.lingerDue st)) (State.lingerEvent st) s

end Sys2Proof.Machine
end

