-- ==== Sys2Proof/Machine/ResetUnit.lean ====
section
/-! DEFINITION. RESET and RESET_RELEASE (R37, R38, R126 and the reset column of every chapter). -/

namespace Sys2Proof.Machine

/-- Assertion of RESET: every queued transaction is abandoned, the issue list is emptied into the drain count, and all
state returns to its reset values (R37, R38, R126). What waits to be sent to the part, and the count of free choices,
are not the part's and stay. -/
def State.assertReset (anchorSel : BitVec 4) (mode : StartMode) (s : State) : State :=
  { State.resetValues anchorSel mode (s.arbiter.drain + s.arbiter.issued.length) true with
    freeCount := s.freeCount
    pending := s.pending }

/-- RESET (R37, R38). -/
def execReset (anchorSel : BitVec 4) (mode : StartMode) (s : State) : Host.Outcome State Fault Refusal :=
  .next (s.assertReset anchorSel mode)

/-- Release of RESET: the straps as last sampled choose the anchor base and the reset policy (R8, R128), and the ports
work again (R37). -/
def State.releaseReset (anchorSel : BitVec 4) (mode : StartMode) (s : State) : State :=
  { s with
    anchorSel := anchorSel, resetAsserted := false, policy := { s.policy with active := resetPolicy mode } }

/-- RESET_RELEASE (R37, R8): where RESET is not asserted there is no release. -/
def execResetRelease (anchorSel : BitVec 4) (mode : StartMode) (s : State) : Host.Outcome State Fault Refusal :=
  .next (if s.resetAsserted then s.releaseReset anchorSel mode else s)

end Sys2Proof.Machine
end

