-- ==== Sys2Proof/Machine/Dispatch.lean ====
section
/-! DEFINITION. One arm per event of the part: its meaning. -/

namespace Sys2Proof.Machine

def exec (i : Instr) (s : State) : Host.Outcome State Fault Refusal :=
  match i with
  | .reset a m => Sys2Proof.Machine.execReset a m s
  | .resetRelease a m => Sys2Proof.Machine.execResetRelease a m s
  | .decisionPoint r => Sys2Proof.Machine.execDecisionPoint r s
  | .memoryGrant => Sys2Proof.Machine.execMemoryGrant s
  | .passMemoryCompletion x => Sys2Proof.Machine.execPassMemoryCompletion x s
  | .descriptorFetchCompletion x => Sys2Proof.Machine.execDescriptorFetchCompletion x s
  | .recordBurstCompletion c => Sys2Proof.Machine.execRecordBurstCompletion c s
  | .statusWriteCompletion c => Sys2Proof.Machine.execStatusWriteCompletion c s
  | .reportWriteCompletion c => Sys2Proof.Machine.execReportWriteCompletion c s
  | .statsBurstCompletion c => Sys2Proof.Machine.execStatsBurstCompletion c s
  | .policyReadCompletion x => Sys2Proof.Machine.execPolicyReadCompletion x s
  | .drainResponse x => Sys2Proof.Machine.execDrainResponse x s
  | .voidAnswerDiscard x => Sys2Proof.Machine.execVoidAnswerDiscard x s
  | .deliveryEnd => Sys2Proof.Machine.execDeliveryEnd s
  | .tickAdvance => Sys2Proof.Machine.execTickAdvance s
  | .quietTimerExpiry => Sys2Proof.Machine.execQuietTimerExpiry s
  | .lingerClose st => Sys2Proof.Machine.execLingerClose st s
  | .anchorArgumentWrite w => Sys2Proof.Machine.execAnchorArgumentWrite w s
  | .unknownCommand p c => Sys2Proof.Machine.execUnknownCommand p c s
  | .refresh p => Sys2Proof.Machine.execRefresh p s
  | .loadPolicy p => Sys2Proof.Machine.execLoadPolicy p s
  | .commit p => Sys2Proof.Machine.execCommit p s
  | .discard p => Sys2Proof.Machine.execDiscard p s
  | .setChain p => Sys2Proof.Machine.execSetChain p s
  | .setChainAbort p => Sys2Proof.Machine.execSetChainAbort p s
  | .kick p => Sys2Proof.Machine.execKick p s
  | .flush p => Sys2Proof.Machine.execFlush p s
  | .captureStart p => Sys2Proof.Machine.execCaptureStart p s
  | .captureStopNow p => Sys2Proof.Machine.execCaptureStopNow p s
  | .captureStopAtGroupEnd p => Sys2Proof.Machine.execCaptureStopAtGroupEnd p s
  | .mark p => Sys2Proof.Machine.execMark p s
  | .ack p => Sys2Proof.Machine.execAck p s
  | .noticeEnable p => Sys2Proof.Machine.execNoticeEnable p s
  | .forceNotice p => Sys2Proof.Machine.execForceNotice p s
  | .clearDenials p => Sys2Proof.Machine.execClearDenials p s
  | .stats p => Sys2Proof.Machine.execStats p s
  | .setTiming p => Sys2Proof.Machine.execSetTiming p s
  | .recordReset p => Sys2Proof.Machine.execRecordReset p s
  | .clock => Sys2Proof.Machine.execClock s

end Sys2Proof.Machine
end

