-- ==== Sys2Proof/Machine/Step.lean ====
section
/-! DEFINITION. One step of the block: the event at the front of the queue, or idling on an empty one. -/

namespace Sys2Proof.Machine

/-- Take the event at the front of the queue and answer its outcome with the rest of the queue; an empty queue idles
(DESIGN CHOICE, log entry 12). -/
def step (s : State) : Host.Outcome State Fault Refusal :=
  match s.pending with
  | [] => .next s
  | i :: rest => exec i { s with pending := rest }

/-- The state with the event that a word spells put at the front of its queue, unchanged where it spells none. Events
come to the part from outside it, through the queue (log entry 12). -/
def State.withFetchWord (s : State) (nbits w : Nat) : State :=
  match decodeTableWord nbits w with
  | some i => { s with pending := i :: s.pending }
  | none => s

end Sys2Proof.Machine
end

