-- ==== Sys2Proof/Safety.lean ====
section
/-! DEFINITION. The vocabulary of the statements: the conditions under which events complete, the spec's own tables written
out once more without the model's operations, and the invariants that every step keeps. -/

namespace Sys2Proof.Machine

/-! ## Conditions on a state -/

/-- RESET is released, the command unit is IDLE (R130), and no close or flush condition of a walker is left standing, as
every event leaves it (R101, R103, R108; `State.settled` is kept by every step). -/
def State.ready (s : State) : Prop :=
  s.resetAsserted = false ∧ s.command.running = none ∧ s.settled = true

/-- The processor port can take a request: RESET is released and the queue holds fewer than 4 (R28, R37). -/
def State.portReady (s : State) : Prop := s.resetAsserted = false ∧ s.queue.length < 4

/-- The head of the issue list is a live entry of a requester, so that the next answer is its (R123). -/
def State.owesAnswerTo (s : State) (r : Requester) (e : IssueEntry) : Prop :=
  s.resetAsserted = false ∧ s.arbiter.drain = 0 ∧ e.requester = r ∧ e.voided = false ∧
    ∃ rest, s.arbiter.issued = e :: rest

/-! ## Commands -/

/-- What a delivery that ends in its own event leaves of the command unit and of its account (R134, R136, R162): the count
goes up, the result word takes the code, the result, field index 0 and the new count, the result section is dirty, and
COMMAND_DONE (bit 10) is in the raw set, which dirties the notices section if it was not. -/
def State.completed (s : State) (code : BitVec 8) (result : BitVec 4) : State :=
  { s with
    command := { s.command with
      count := s.command.count + 1
      result := { code := code, result := result, fieldIndex := 0, number := s.command.count + 1 } }
    notices := { s.notices with raw := s.notices.raw ||| 0x400#13 }
    report := { s.report with
      dirty := s.report.dirty ||| 0x01#8 ||| (if s.notices.raw.getLsbD 10 then 0#8 else 0x02#8) } }

/-- The privilege and the command code with which a command row is delivered (R178). -/
def deliveredBy : Instr → Option (Privilege × BitVec 8)
  | .unknownCommand p c => if 1 ≤ c.toNat ∧ c.toNat ≤ 0x11 then none else some (p, c)
  | .refresh p => some (p, 0x01)
  | .loadPolicy p => some (p, 0x02)
  | .commit p => some (p, 0x03)
  | .discard p => some (p, 0x04)
  | .setChain p => some (p, 0x05)
  | .setChainAbort p => some (p, 0x05)
  | .kick p => some (p, 0x06)
  | .flush p => some (p, 0x07)
  | .captureStart p => some (p, 0x08)
  | .captureStopNow p => some (p, 0x09)
  | .captureStopAtGroupEnd p => some (p, 0x09)
  | .mark p => some (p, 0x0A)
  | .ack p => some (p, 0x0B)
  | .noticeEnable p => some (p, 0x0C)
  | .forceNotice p => some (p, 0x0D)
  | .clearDenials p => some (p, 0x0E)
  | .stats p => some (p, 0x0F)
  | .setTiming p => some (p, 0x10)
  | .recordReset p => some (p, 0x11)
  | .reset _ _ => none
  | .resetRelease _ _ => none
  | .decisionPoint _ => none
  | .memoryGrant => none
  | .passMemoryCompletion _ => none
  | .descriptorFetchCompletion _ => none
  | .recordBurstCompletion _ => none
  | .statusWriteCompletion _ => none
  | .reportWriteCompletion _ => none
  | .statsBurstCompletion _ => none
  | .policyReadCompletion _ => none
  | .drainResponse _ => none
  | .voidAnswerDiscard _ => none
  | .deliveryEnd => none
  | .tickAdvance => none
  | .quietTimerExpiry => none
  | .lingerClose _ => none
  | .anchorArgumentWrite _ => none
  | .clock => none

/-! ## Streams -/

/-- Size of the capture FIFO in words (R77). -/
def fifoWords (fifo : List Record) : Nat := (fifo.map Record.words).sum

/-- Free space of a stream: 32 records or 1024 words, less what the FIFO holds (R77). -/
def freeOf (i : StreamId) (fifo : List Record) : Nat :=
  match i with
  | .event => 32 - fifo.length
  | .capture => 1024 - fifoWords fifo

/-- The table of R80 with R81 and R83: the stream after one offer at a tick count. -/
def RecordStream.afterOffer (x : RecordStream) (i : StreamId) (tick : Word) (r : Record) : RecordStream :=
  let size := match i with
    | .event => 1
    | .capture => r.words
  let gap := match i with
    | .event => 1
    | .capture => 2
  let gapRecord := match i with
    | .event => Record.eventGap x.lost x.saturated tick
    | .capture => Record.captureGap x.lost x.saturated tick
  if x.lost = 0 ∧ size ≤ freeOf i x.fifo then { x with fifo := x.fifo ++ [r] }
  else if 0 < x.lost ∧ gap + size ≤ freeOf i x.fifo then
    { fifo := x.fifo ++ [gapRecord, r], lost := 0, saturated := false }
  else { x with lost := min 65535 (x.lost + 1), saturated := x.saturated || decide (65535 ≤ x.lost) }

/-- R80: the stream has no room for a record offered: for the record where no loss is owed a GAP, and else for the GAP and
the record. -/
def RecordStream.hasNoRoom (x : RecordStream) (i : StreamId) (r : Record) : Bool :=
  let size := match i with
    | .event => 1
    | .capture => r.words
  let gap := match i with
    | .event => 1
    | .capture => 2
  decide (freeOf i x.fifo < if x.lost = 0 then size else gap + size)

/-- R83, R84: the stream after k records are counted lost in one event. -/
def RecordStream.afterLosing (x : RecordStream) (k : Nat) : RecordStream :=
  if k = 0 then x
  else { x with lost := min 65535 (x.lost + k), saturated := x.saturated || decide (65535 < x.lost + k) }

/-! ## Captured transactions -/

/-- R67: the capture record of a pending entry at its transaction's memory completion. -/
def recordOf (p : PendingEntry) (ans : MemResponse) : Record :=
  let data := if p.access = .write then p.firstBeat.getD 0 else if ans.code = .okay then ans.data.headD 0 else 0
  if p.format = .short then
    .short p.address p.access p.privilege p.master p.beats p.group (p.timestamp.setWidth 16)
  else
    .full p.address p.access p.privilege p.master p.beats p.group p.entry p.timestamp data (decide (ans.code = .error))

/-- R70: the GROUP_END of a closed group is due: no non-void pending entry carries its number. -/
def groupDue (pending : List PendingEntry) (g : ClosedGroup) : Bool :=
  pending.all fun p => p.voided || decide (p.group ≠ g.number)

/-- R70: the owed list without the groups that are due, which leave it from its head. -/
def stillOwed (pending : List PendingEntry) (owed : List ClosedGroup) : List ClosedGroup :=
  owed.dropWhile (groupDue pending)

/-- R70: the capture stream after the GROUP_ENDs of the owed groups that are due are offered, oldest first. -/
def RecordStream.afterGroupEnds (x : RecordStream) (tick : Word) (pending : List PendingEntry) (owed : List ClosedGroup) :
    RecordStream :=
  (owed.takeWhile (groupDue pending)).foldl (fun y g => y.afterOffer .capture tick (.groupEnd g)) x

/-! ## Completed writes -/

/-- R36: the beats of a write's completion: each beat's address folded with the W of the active table. -/
def State.completedBeats (s : State) (r : Request) : List CompletedBeat :=
  r.writeData.zipIdx.map fun b =>
    { address := BitVec.ofNat 32 ((r.address + BitVec.ofNat 32 (4 * b.2)).toNat % 2 ^ s.policy.active.width)
      enables := b.1.enables, data := b.1.data }

/-- R128: a completed beat matches anchor word n. -/
def State.atAnchor (s : State) (b : CompletedBeat) (n : Nat) : Bool :=
  decide (b.address.toNat = (s.anchorSel.toNat * 0x10000000 + 0xFF00) % 2 ^ s.policy.active.width + 4 * n)

/-- R133: the command beat: the first, and in a burst of the port the only one, that matches anchor word 0 whole. -/
def State.commandBeatIn (s : State) (beats : List CompletedBeat) : Option CompletedBeat :=
  beats.find? fun b => s.atAnchor b 0 && decide (b.enables = 0b1111)

/-- R131, R169: a shadow after beats taken in order: each byte of the word that a beat matches, from word 1 on, takes the
beat's byte where its enable is set. -/
def State.ShadowTakes (s : State) (beats : List CompletedBeat) (shadow : Vector Word 7) : Prop :=
  ∀ (j : Fin 7) (byte bit : Nat), byte < 4 → bit < 8 →
    shadow[j].getLsbD (8 * byte + bit) =
      beats.foldl
        (fun old b => if s.atAnchor b (j.val + 1) && b.enables.getLsbD byte then b.data.getLsbD (8 * byte + bit) else old)
        (s.command.shadow[j].getLsbD (8 * byte + bit))

/-- R105: the beats cover the status word of the descriptor that a walker in WAITING waits on. -/
def State.releases (s : State) (beats : List CompletedBeat) (i : StreamId) : Bool :=
  decide ((s.walker i).state = .waiting) && beats.any fun b =>
    decide (b.address.toNat = ((s.walker i).current + 12).toNat % 2 ^ s.policy.active.width) && decide (b.enables ≠ 0)

/-! ## Time -/

/-- R103: a walker's linger age after an advance. -/
def Walker.agedBy (w : Walker) : Nat :=
  if w.state = .filling ∧ 0 < w.fillOffset then min 65535 (w.lingerAge + 1) else w.lingerAge

/-! ## Lasting commands -/

/-- R135, R136, R140: between two states, the lasting command of a stream completes, where one runs, with a result code and
the number of its delivery. -/
def CommandCompletes (s t : State) (i : StreamId) (result : BitVec 4) : Prop :=
  ∀ c, s.command.running = some c → c.stream = some i →
    t.command = { s.command with
      running := none, result := { code := c.code, result := result, fieldIndex := 0, number := c.number } } ∧
    t.isDirty .result = true ∧ t.isRaised .commandDone = true

/-- R151 with R135 and R136: the load that an image read's answer ends: the staged table takes its final state, the loader is
idle, and LOAD_POLICY completes with a result, a field index and the number of its delivery; the policy section (bit 6), the
result section (bit 0) and, where COMMAND_DONE (bit 10) is new, the notices section (bit 1) are dirty. -/
def State.loadEnded (s : State) (staged : Staged) (number : BitVec 8) (result : BitVec 4) (fieldIndex : BitVec 12) : State :=
  { s with
    arbiter := { s.arbiter with issued := s.arbiter.issued.tail }
    policy := { s.policy with staged := staged }
    command := { s.command with
      running := none, loader := none
      result := { code := 0x02, result := result, fieldIndex := fieldIndex, number := number } }
    notices := { s.notices with raw := s.notices.raw ||| 0x400 }
    report := { s.report with
      dirty := s.report.dirty ||| 0x41 ||| (if s.notices.raw.getLsbD 10 then 0 else 0x02) } }

/-- R148, R149, R150: the load that an image read's answer does not end: the loader alone changes. -/
def State.loadGoesOn (s : State) (l : Loader) : State :=
  { s with
    arbiter := { s.arbiter with issued := s.arbiter.issued.tail }
    command := { s.command with loader := some l } }

/-- R114: between two states, a walker's abort completes: `x` is the stream as the event found it, or as a failed burst's
loss left it, and its FIFO is discarded and counted lost; no CHAIN_FAULT is raised, and the other stream is left. -/
def AbortCompletes (s t : State) (i : StreamId) (x : RecordStream) (error : Bool) : Prop :=
  (t.walker i).state = .idle ∧ (t.walker i).current = 0 ∧ (t.walker i).copy = none ∧ (t.walker i).fillOffset = 0 ∧
    (t.walker i).lingerAge = 0 ∧ (t.walker i).inFlight = none ∧
    t.stream i = { x.afterLosing x.fifo.length with fifo := [] } ∧ (x.fifo ≠ [] → t.isRaised i.lossNotice = true) ∧
    CommandCompletes s t i (if error then 9 else 1) ∧ t.isRaised .chainFault = s.isRaised .chainFault ∧
    ∀ j, j ≠ i → t.stream j = s.stream j

/-! ## Judging a request -/

/-- R12. -/
def FormatCheckFails (p : Policy) (r : Request) : Prop :=
  r.address.toNat % 4 ≠ 0 ∨ 0xFFFFFFFF < r.address.toNat + 4 * r.beats - 1 ∨
    2 ^ p.width ≤ r.address.toNat % 2 ^ p.width + 4 * r.beats - 1

/-- R13. -/
def AliasCheckFails (p : Policy) (r : Request) : Prop :=
  p.fold = .strict ∧ ∃ bit, p.width ≤ bit ∧ r.address.getLsbD bit = true

/-- R14. -/
def SegmentCheckFails (p : Policy) (r : Request) : Prop :=
  p.segmentEnabled = true ∧ r.privilege = .user ∧
    p.segmentBoundary.toNat ≤ r.address.toNat % 2 ^ p.width + 4 * r.beats - 1

/-- R15: an entry matches a request. -/
def EntryMatches (p : Policy) (r : Request) (e : RegionEntry) : Prop :=
  e.masters.getLsbD r.master.toNat = true ∧ e.base ≤ r.address.toNat % 2 ^ p.width / 64 ∧
    r.address.toNat % 2 ^ p.width / 64 ≤ e.limit

/-- R15: entry k of the table is the deciding entry. -/
def DecidingEntry (p : Policy) (r : Request) (k : Nat) (e : RegionEntry) : Prop :=
  p.entries[k]? = some e ∧ EntryMatches p r e ∧ ∀ j e', j < k → p.entries[j]? = some e' → ¬ EntryMatches p r e'

/-- R15: no present entry matches. -/
def NoDecidingEntry (p : Policy) (r : Request) : Prop := ∀ e ∈ p.entries, ¬ EntryMatches p r e

/-- R16. -/
def StraddleCheckFails (p : Policy) (r : Request) (e : RegionEntry) : Prop :=
  e.limit < (r.address.toNat % 2 ^ p.width + 4 * r.beats - 1) / 64

/-- R17: some folded byte of the request, from F to L, equals a folded byte of a current buffer. -/
def BufferCheckFails (p : Policy) (buffers : List DescriptorCopy) (r : Request) : Prop :=
  r.kind = .write ∧ ∃ b ∈ buffers, ∃ x y, r.address.toNat % 2 ^ p.width ≤ x ∧
    x ≤ r.address.toNat % 2 ^ p.width + 4 * r.beats - 1 ∧ y < b.length ∧ (b.buffer.toNat + y) % 2 ^ p.width = x

/-- R18: the flag that governs a privilege and a kind, by its bit (R172). -/
def permissionFlag (permissions : BitVec 6) : Privilege → AccessKind → Bool
  | .supervisor, .fetch => permissions.getLsbD 0
  | .supervisor, .read => permissions.getLsbD 1
  | .supervisor, .write => permissions.getLsbD 2
  | .user, .fetch => permissions.getLsbD 3
  | .user, .read => permissions.getLsbD 4
  | .user, .write => permissions.getLsbD 5

/-- A denial of a kind whose response, fill and report setting are the default rule's (R19). -/
def Policy.deniesByDefault (p : Policy) (k : DenialKind) : Verdict :=
  .deny { kind := k, response := p.defaultRule.response, fill := p.defaultRule.fill, report := p.defaultRule.report }

/-- A denial of a kind whose response, fill and report setting are an entry's (R19). -/
def RegionEntry.denies (e : RegionEntry) (k : DenialKind) : Verdict :=
  .deny { kind := k, response := e.response, fill := e.fill, report := e.report }

/-- R21: what a PASS under an entry is eligible for; the kind's bit is R172's. -/
def RegionEntry.captureTerms (e : RegionEntry) (k : AccessKind) : Option Eligibility :=
  let captured := match k with
    | .fetch => e.captureKinds.getLsbD 0
    | .read => e.captureKinds.getLsbD 1
    | .write => e.captureKinds.getLsbD 2
  if captured then some { format := e.format, factor := e.factor } else none

/-! ## Policy images -/

/-- The checks of R149 on a header's words, in order, each with the field index of its failure. -/
def headerChecks (w : Nat → Word) : List (Bool × Nat) :=
  [(decide (w 0 ≠ 1), 0), (decide (32 < (w 1).toNat), 1),
    (decide ((w 2).toNat % 64 < 16 ∨ 32 < (w 2).toNat % 64 ∨ 1 < (w 2).toNat / 256 % 4), 2),
    (decide ((w 3).toNat % 0x10000 ≠ 0), 3), (decide (1 < (w 4).toNat / 256 % 4), 4)]

/-- A policy is what a header's words say, with no entry (R146, R172). -/
def HeaderRead (w : Nat → Word) (p : Policy) : Prop :=
  p.width = (w 2).toNat % 64 ∧ (p.fold = .strict ↔ (w 2).toNat / 256 % 4 = 1) ∧ p.segmentEnabled = (w 2).getLsbD 12 ∧
    p.segmentBoundary = w 3 ∧ p.defaultRule.permissions.toNat = (w 4).toNat % 64 ∧
    (p.defaultRule.response = .quiet ↔ (w 4).toNat / 256 % 4 = 1) ∧ p.defaultRule.report = (w 4).getLsbD 12 ∧
    p.defaultRule.fill = w 5 ∧ p.entries = []

/-- The checks of R150 on an entry record's words, in order, each with the image word number of its failure; `image` is the
record's first image word. -/
def entryChecks (width image : Nat) (w : Nat → Word) : List (Bool × Nat) :=
  [(decide ((w 1).toNat < (w 0).toNat ∨ 2 ^ (width - 6) ≤ (w 1).toNat), image + 1),
    (decide (1 < (w 3).toNat / 256 % 4), image + 3),
    (decide (1 < (w 5).toNat / 16 % 4 ∨ 255 < (w 5).toNat / 65536), image + 5)]

/-- A region entry is what an entry record's words say (R146, R172). -/
def EntryRead (w : Nat → Word) (x : RegionEntry) : Prop :=
  x.base = (w 0).toNat ∧ x.limit = (w 1).toNat ∧ x.masters.toNat = (w 2).toNat % 256 ∧
    x.permissions.toNat = (w 3).toNat % 64 ∧ (x.response = .quiet ↔ (w 3).toNat / 256 % 4 = 1) ∧
    x.report = (w 3).getLsbD 12 ∧ x.fill = w 4 ∧ x.captureKinds.toNat = (w 5).toNat % 8 ∧
    (x.format = .full ↔ (w 5).toNat / 16 % 4 = 1) ∧ x.factor = (w 5).toNat / 65536 + 1

/-- The first check that fails, by what it names. -/
def firstFailure {α : Type} (checks : List (Bool × α)) : Option α := (checks.find? (·.1)).map (·.2)

/-! ## Descriptors -/

/-- The checks of R98 on a descriptor's words, in order, each with the cause of its failure. -/
def descriptorChecks (i : StreamId) (w0 w1 w2 w3 : Word) : List (Bool × FaultCause) :=
  [(decide (i = .capture) != w2.getLsbD 1, .wrongStream), (decide (w0.toNat % 16 ≠ 0), .badAddress),
    (decide (w1.toNat < 16 ∨ 1048576 < w1.toNat ∨ w1.toNat % 16 ≠ 0 ∨ 0xFFFFFFFF < w0.toNat + w1.toNat - 1), .badLength),
    (!w2.getLsbD 0 && (w2.getLsbD 2 || w2.getLsbD 3), .badLink),
    (decide (w3.toNat % 4 = 0 ∨ w3.toNat % 4 = 3), .badOwner)]

/-! ## Arbitration -/

/-- The seven ranks of R121, each with whether its request stands. -/
def State.ranks (s : State) : List (Bool × Requester) :=
  let internal := s.stands .report || s.stands .event || s.stands .command || s.stands .capture
  [(s.stands .event && s.urgent .event, .event),
    (s.stands .capture && s.urgent .capture, .capture),
    (s.stands .pass && !(decide (s.arbiter.fairness = 8) && internal), .pass),
    (s.stands .report, .report),
    (s.stands .event, .event),
    (s.stands .command, .command),
    (s.stands .capture, .capture)]

/-! ## Invariants -/

/-- Decided PASS. -/
def QueueEntry.passed (e : QueueEntry) : Bool :=
  match e.decision.verdict with
  | .pass _ => true
  | .deny _ => false

/-- How far a queue state is on its way (R29). -/
def TxState.stage : TxState → Nat
  | .delivering => 0 | .held => 1 | .atMemory => 2 | .unsent => 3 | .denied => 4

/-- R27, R29: at most 4 transactions; a state fits its outcome; a stored response is there when it is to be delivered; only
the head delivers, and the head is not waiting to be the head; the PASS transactions lie in the order HELD, AT_MEMORY,
UNSENT from head to tail. -/
def State.queueLaw (s : State) : Prop :=
  s.queue.length ≤ 4 ∧
    (∀ e ∈ s.queue, (e.state = .denied → e.passed = false) ∧
      (e.state = .unsent ∨ e.state = .atMemory ∨ e.state = .held → e.passed = true) ∧
      (e.passed = true → e.state = .held ∨ e.state = .delivering → e.response.isSome = true)) ∧
    (∀ e ∈ s.queue.head?, e.state ≠ .denied ∧ e.state ≠ .held) ∧
    (∀ e ∈ s.queue.tail, e.state ≠ .delivering) ∧
    (s.queue.filter QueueEntry.passed).Pairwise (fun a b => a.state.stage ≤ b.state.stage)

/-- R65: the pending list holds one entry for each captured transaction that memory has not completed. -/
def State.pendingLaw (s : State) : Prop :=
  s.capture.pendingList.length =
    (s.queue.filter fun e => e.captureLink && (decide (e.state = .unsent) || decide (e.state = .atMemory))).length

/-- R77, R81, R83: the FIFOs hold at most 32 records and 1024 words, and the lost counts stay at or below 65535. -/
def State.streamLaw (s : State) : Prop :=
  s.eventStream.fifo.length ≤ 32 ∧ fifoWords s.captureStream.fifo ≤ 1024 ∧ s.eventStream.lost ≤ 65535 ∧
    s.captureStream.lost ≤ 65535

/-- R38, R118, R121: at most 8 issued transactions, 8 owed to a drain, and never both; the run count stops at 8. -/
def State.arbiterLaw (s : State) : Prop :=
  s.arbiter.issued.length ≤ 8 ∧ s.arbiter.drain ≤ 8 ∧ s.arbiter.fairness ≤ 8 ∧
    (0 < s.arbiter.drain → s.arbiter.issued = [])

/-- R6: base ≤ limit < 2^(W-6), and a decimation factor from 1 to 256. -/
def RegionEntry.valid (width : Nat) (e : RegionEntry) : Prop :=
  e.base ≤ e.limit ∧ e.limit < 2 ^ (width - 6) ∧ 1 ≤ e.factor ∧ e.factor ≤ 256

/-- R9, R149, R150: what every reset policy and every image that passed validation satisfies, but for the entry count. -/
def Policy.valid (p : Policy) : Prop :=
  16 ≤ p.width ∧ p.width ≤ 32 ∧ p.segmentBoundary.toNat % 0x10000 = 0 ∧ ∀ e ∈ p.entries, e.valid p.width

/-- R9: the active table, a VALID staged table, and what a load has read so far, are valid, with at most 32 entries. -/
def State.tableLaw (s : State) : Prop :=
  (s.policy.active.valid ∧ s.policy.active.entries.length ≤ 32) ∧
    (∀ p, s.policy.staged = .valid p → p.valid ∧ p.entries.length ≤ 32) ∧
    (∀ l part, s.command.loader = some l → l.part = some part → part.policy.valid ∧ part.count ≤ 32)

/-- R22, R23: decimation counters from 1 to 256, denial counts at most 65535. -/
def State.counterLaw (s : State) : Prop :=
  (∀ n ∈ s.policy.decimation.toList, 1 ≤ n ∧ n ≤ 256) ∧ (∀ n ∈ s.policy.slotCounts.toList, n ≤ 65535) ∧
    s.denial.defaultCount ≤ 65535

/-- R164: the line is asserted exactly when the published set and the enable mask share a notice. -/
def State.lineLaw (s : State) : Prop :=
  s.notices.line = true ↔ ∃ n : Notice, s.notices.published.getLsbD n.bit = true ∧ s.notices.enable.getLsbD n.bit = true

/-- R55, R62, R63: no group is open in STOPPED and ARMED, one is in STOPPING; the open group carries the current number;
the quiet timer runs only while a group is open. -/
def State.groupLaw (s : State) : Prop :=
  (s.capture.state = .stopped ∨ s.capture.state = .armed → s.capture.openGroup = none) ∧
    (s.capture.state = .stopping → s.capture.openGroup.isSome = true) ∧
    (∀ g, s.capture.openGroup = some g → g.number = s.capture.groupNumber) ∧
    (s.capture.openGroup = none → s.capture.quietTimer = none)

/-- R95, R97, R100, R104: the state in which a walker issues a transaction of a kind, and which it leaves while the transaction
is in flight only for ABORTING (R110). -/
def WalkerTx.issuedIn : WalkerTx → WalkerState
  | .fetch => .fetching
  | .burst _ => .filling
  | .status => .closing

/-- R93, R95, R98, R100, R104: the buffer a copy names is 16 to 1,048,576 bytes, a multiple of 16; the fill offset is a multiple
of 8 within it, and so is the end of the burst in flight, which carries at most 16 words; a walker FILLING or CLOSING
holds a copy; one that is CLOSING has a reason and a buffer that is not empty; a reason is pending only in CLOSING and
ABORTING, with a copy; and a transaction in flight is one that the state issues, or ABORTING waits for (`WalkerTx.issuedIn`). -/
def Walker.bufferLaw (w : Walker) : Prop :=
  (∀ c, w.copy = some c → 16 ≤ c.length ∧ c.length ≤ 1048576 ∧ c.length % 16 = 0 ∧ w.fillOffset ≤ c.length ∧
      w.fillOffset % 8 = 0) ∧
    (∀ rs, w.inFlight = some (.burst rs) → fifoWords rs ≤ 16 ∧
      ∃ c, w.copy = some c ∧ w.fillOffset + 4 * fifoWords rs ≤ c.length) ∧
    (w.state = .filling ∨ w.state = .closing → w.copy.isSome = true) ∧
    (w.state = .closing → w.closeReason.isSome = true ∧ 0 < w.fillOffset) ∧
    (w.closeReason.isSome = true → (w.state = .closing ∨ w.state = .aborting) ∧ w.copy.isSome = true) ∧
    (∀ tx, w.inFlight = some tx → w.state = tx.issuedIn ∨ w.state = .aborting)

/-- The law of R100 for both walkers. -/
def State.bufferLaw (s : State) : Prop := s.eventWalker.bufferLaw ∧ s.captureWalker.bufferLaw

/-- R119, R130, R145, R148: the loader works exactly while the staged table is LOADING, under a running LOAD_POLICY; the
statistics engine works only under a running STATS. -/
def State.ownerLaw (s : State) : Prop :=
  (s.command.loader.isSome = true ↔ s.policy.staged = .loading) ∧
    (s.command.loader.isSome = true → ∃ n, s.command.running = some { code := 0x02, number := n, stream := none }) ∧
    (s.command.stats.isSome = true → ∃ n, s.command.running = some { code := 0x0F, number := n, stream := none })

end Sys2Proof.Machine
end

