-- ==== Sys2Proof/Certificates/Slice0/Obligations.lean ====
section
/-! DEFINITION. The statements about the MG-420, from the spec's numbered rules. `State.ready`, `State.completed` and the laws
are those of Sys2Proof/Safety.lean. Events that may set several fields name them, and `t = …` with the old state's fields is
the frame of what they leave. -/

open Sys2Proof Sys2Proof.Machine

/-! ## Steps and reset -/

/-- A step takes the event at the front of the queue and runs it on the queue's rest. -/
def Obligations.StepRunsTheFrontEvent : Prop :=
  ∀ (c : Instr) (rest : List Instr) (s : State),
    step { s with pending := c :: rest } = exec c { s with pending := rest }

/-- R37, R38, R126 and the reset columns of R22, R23, R43 to R45, R54, R77, R87, R89, R93, R118, R130, R145, R159 and R162:
assertion of RESET abandons the queue, adds the issue list to the drain count, and puts the policy's parts but its default
rule, the counters, the denial unit, the capture unit, the streams, the walkers, the command unit, the report writer, the
notices and the time base at their reset values. The result word and the model's own fields are not spoken of (log
entries 2, 3, 4). -/
def Obligations.ResetAbandonsWorkAndRestoresResetValues : Prop :=
  ∀ (s : State) (a : BitVec 4) (m : StartMode), ∃ t, exec (.reset a m) s = .next t ∧
    t.resetAsserted = true ∧ t.anchorSel = a ∧ t.queue = [] ∧
    t.arbiter = { issued := [], fairness := 0, drain := s.arbiter.drain + s.arbiter.issued.length } ∧
    t.policy.active.entries = [] ∧ t.policy.active.width = 32 ∧ t.policy.active.fold = .fold ∧
    t.policy.active.segmentEnabled = false ∧ t.policy.active.segmentBoundary = 0 ∧
    t.policy.staged = .empty ∧ t.policy.commitCount = 0 ∧
    (∀ n ∈ t.policy.decimation.toList, n = 1) ∧ (∀ n ∈ t.policy.slotCounts.toList, n = 0) ∧
    t.denial = { latch := none, more := false, sticky := 0, defaultCount := 0 } ∧
    t.capture = { state := .stopped,
                  trigger := { kind := .immediate, entry := 0, quiet := 0, limit := 0, oneShot := false },
                  groupNumber := 0, openGroup := none, quietTimer := none, owed := [], pendingList := [] } ∧
    (∀ i, t.stream i = { fifo := [], lost := 0, saturated := false }) ∧
    (∀ i, t.walker i = { state := .idle, current := 0, copy := none, fillOffset := 0, gapPresent := false, lingerAge := 0,
                         closeReason := none, inFlight := none, flushCount := none, abortError := false }) ∧
    t.command.running = none ∧ (∀ w ∈ t.command.shadow.toList, w = 0) ∧ t.command.count = 0 ∧ t.command.stats = none ∧
    t.command.loader = none ∧
    t.report = { dirty := 0, inFlight := none, fault := false } ∧
    t.notices = { raw := 0, enable := 0, published := 0, line := false } ∧
    t.time = { tick := 0, divider := 1, prescale := 0, eventLinger := 0, captureLinger := 0, captureUrgent := 768 } ∧
    t.pending = s.pending

/-- R8, R37, R128: the row RESET_RELEASE carries the straps' last sample, and loads the anchor and the reset policy of that
sample; nothing else changes. That the straps are sampled anew at the release, and loaded there, is the model's reading
(DEDUCED, log entry 22). -/
def Obligations.ReleaseLoadsTheStrappedResetPolicy : Prop :=
  ∀ (s : State) (a : BitVec 4) (m : StartMode), s.resetAsserted = true →
    exec (.resetRelease a m) s = .next { s with
      anchorSel := a
      resetAsserted := false
      policy := { s.policy with active :=
        { width := 32, fold := .fold, segmentEnabled := false, segmentBoundary := 0x00000000
          defaultRule :=
            { permissions := if m = .openStart then 0b111111 else 0b000111
              response := .error, fill := 0x00000000, report := decide (m = .closedStart) }
          entries := [] } } }

/-- The laws of Sys2Proof/Safety.lean hold of the part right after reset (straps: log entry 1). -/
def Obligations.LawsHoldAtReset : Prop :=
  State.reset.queueLaw ∧ State.reset.pendingLaw ∧ State.reset.streamLaw ∧ State.reset.arbiterLaw ∧ State.reset.tableLaw ∧
    State.reset.counterLaw ∧ State.reset.lineLaw ∧ State.reset.groupLaw ∧ State.reset.bufferLaw ∧ State.reset.ownerLaw ∧
    State.reset.settled = true

/-! ## Judging a request -/

/-- R11 with R12 to R19 and R21: the seven steps in order; the first check that fails names the denial; a request that passes
all of them passes, and is capture-eligible under its deciding entry alone. -/
def Obligations.FirstFailingCheckNamesTheDenial : Prop :=
  ∀ (p : Policy) (buffers : List DescriptorCopy) (r : Request), r.wellFormed = true →
    (FormatCheckFails p r → (p.judge buffers r).1 = p.deniesByDefault .format) ∧
    (¬ FormatCheckFails p r → AliasCheckFails p r → (p.judge buffers r).1 = p.deniesByDefault .aliased) ∧
    (¬ FormatCheckFails p r → ¬ AliasCheckFails p r → SegmentCheckFails p r →
      (p.judge buffers r).1 = p.deniesByDefault .segment) ∧
    (¬ FormatCheckFails p r → ¬ AliasCheckFails p r → ¬ SegmentCheckFails p r →
      (∀ k e, DecidingEntry p r k e →
        (StraddleCheckFails p r e → (p.judge buffers r).1 = e.denies .straddle) ∧
        (¬ StraddleCheckFails p r e → BufferCheckFails p buffers r →
          (p.judge buffers r).1 = p.deniesByDefault .buffer) ∧
        (¬ StraddleCheckFails p r e → ¬ BufferCheckFails p buffers r → permissionFlag e.permissions r.privilege r.kind = false →
          (p.judge buffers r).1 = e.denies .permission) ∧
        (¬ StraddleCheckFails p r e → ¬ BufferCheckFails p buffers r → permissionFlag e.permissions r.privilege r.kind = true →
          (p.judge buffers r).1 = .pass (e.captureTerms r.kind))) ∧
      (NoDecidingEntry p r →
        (BufferCheckFails p buffers r → (p.judge buffers r).1 = p.deniesByDefault .buffer) ∧
        (¬ BufferCheckFails p buffers r → permissionFlag p.defaultRule.permissions r.privilege r.kind = false →
          (p.judge buffers r).1 = p.deniesByDefault .permission) ∧
        (¬ BufferCheckFails p buffers r → permissionFlag p.defaultRule.permissions r.privilege r.kind = true →
          (p.judge buffers r).1 = .pass none)))

/-- R13: under STRICT an address bit at or above W is denied ALIAS, under FOLD or with W = 32 none is, and the denial has no
deciding entry and the default rule's response, fill and report setting. -/
def Obligations.AliasDenialNeedsStrictFoldAndHighBit : Prop :=
  ∀ (p : Policy) (buffers : List DescriptorCopy) (r : Request), ¬ FormatCheckFails p r →
    ((∃ t, (p.judge buffers r).1 = .deny t ∧ t.kind = .aliased) ↔
      p.fold = .strict ∧ ∃ bit, p.width ≤ bit ∧ r.address.getLsbD bit = true) ∧
    (p.fold = .fold ∨ p.width = 32 → ∀ t, (p.judge buffers r).1 = .deny t → t.kind ≠ .aliased) ∧
    (∀ t, (p.judge buffers r).1 = .deny t → t.kind = .aliased → (p.judge buffers r).2 = none ∧
      t.response = p.defaultRule.response ∧ t.fill = p.defaultRule.fill ∧ t.report = p.defaultRule.report)

/-- R15, R19: the deciding entry recorded is the first entry, in ascending index, that matches, or NONE; a denial by an
earlier step records NONE. -/
def Obligations.LookupRecordsTheFirstMatchingEntry : Prop :=
  ∀ (p : Policy) (buffers : List DescriptorCopy) (r : Request),
    (FormatCheckFails p r ∨ AliasCheckFails p r ∨ SegmentCheckFails p r → (p.judge buffers r).2 = none) ∧
    (¬ FormatCheckFails p r → ¬ AliasCheckFails p r → ¬ SegmentCheckFails p r →
      (∀ k, (p.judge buffers r).2 = some k ↔ ∃ e, DecidingEntry p r k e) ∧
      ((p.judge buffers r).2 = none ↔ NoDecidingEntry p r))

/-- R28, R29, R20, R60: DECISION_POINT takes the request at the tail with its decision record, and a full queue holds it off.
A PASS that is not considered (not eligible, or decided in STOPPED or in ARMED without firing the trigger) takes no capture
link and changes the queue alone. Frame: what no decision touches. -/
def Obligations.RequestIsTakenOrHeldOff : Prop :=
  (∀ (s : State) (r : Request), r.wellFormed = true → s.portReady → ∃ t e, exec (.decisionPoint r) s = .next t ∧
    t.queue.map (·.request) = s.queue.map (·.request) ++ [r] ∧ t.queue.getLast? = some e ∧
    e.decision = { verdict := (s.policy.active.judge s.currentBuffers r).1, timestamp := s.time.tick,
                   entry := (s.policy.active.judge s.currentBuffers r).2 } ∧
    e.response = none ∧
    (∀ x, e.decision.verdict = .pass x → e.state = .unsent) ∧
    (∀ x, e.decision.verdict = .deny x → e.captureLink = false ∧ e.state = if s.queue = [] then .delivering else .denied) ∧
    (∀ x, e.decision.verdict = .pass x → s.settled = true →
      x = none ∨ s.capture.state = .stopped ∨
          (s.capture.state = .armed ∧
            ¬ (s.capture.trigger.kind = .onEntry ∧ e.decision.entry = some s.capture.trigger.entry)) →
      e.captureLink = false ∧ t = { s with queue := t.queue }) ∧
    (s.queueLaw → t.queue.dropLast = s.queue) ∧
    (s.settled = true → t.command = s.command) ∧
    t.policy.active = s.policy.active ∧ t.policy.staged = s.policy.staged ∧ t.policy.commitCount = s.policy.commitCount ∧
    t = { s with
      queue := t.queue, policy := t.policy, denial := t.denial, capture := t.capture, eventStream := t.eventStream
      captureStream := t.captureStream, eventWalker := t.eventWalker, captureWalker := t.captureWalker
      command := t.command, report := t.report, notices := t.notices, freeCount := t.freeCount }) ∧
  (∀ (s : State) (r : Request), r.wellFormed = true → s.resetAsserted = false → 4 ≤ s.queue.length →
    exec (.decisionPoint r) s = .next s)

/-- R42 with R19, R23, R43 to R45, R51 to R53, R58 and R83: the account of a DENY decision. The denial section is dirty if the
latch fills, the flag sets or the kind is new; a DENIAL record that finds no room raises EVENT_LOSS. With an armed ON_DENIAL
trigger the DENIAL record and the CAPTURE_STATE record enter in either order (log entry 4). -/
def Obligations.DenialTakesItsAccount : Prop :=
  ∀ (s : State) (r : Request) (d : DenialTerms), r.wellFormed = true → s.portReady →
    (s.policy.active.judge s.currentBuffers r).1 = .deny d →
    ∃ t, exec (.decisionPoint r) s = .next t ∧
      let entry := (s.policy.active.judge s.currentBuffers r).2
      let info : DenialInfo := { address := r.address, kind := d.kind, access := r.kind, privilege := r.privilege,
                                 master := r.master, beats := r.beats, entry := entry, timestamp := s.time.tick }
      let denial : Record := .denial info d.response
      let fired : Record := .captureState .armed .running s.capture.groupNumber s.time.tick
      t.denial.latch = some (s.denial.latch.getD info) ∧
      t.denial.more = (s.denial.more || s.denial.latch.isSome) ∧
      (∀ k : DenialKind, t.denial.sticky.getLsbD k.stickyBit = (s.denial.sticky.getLsbD k.stickyBit || decide (k = d.kind))) ∧
      t.isDirty .denial = (s.isDirty .denial ||
        decide (s.denial.latch = none ∨ s.denial.more = false ∨ s.denial.sticky.getLsbD d.kind.stickyBit = false)) ∧
      t.isRaised .denial = true ∧
      (∀ k, (d.kind = .straddle ∨ d.kind = .permission) → entry = some k →
        t.denial.defaultCount = s.denial.defaultCount ∧
        ∀ j n, s.policy.slotCounts[j]? = some n →
          t.policy.slotCounts[j]? = some (if j = k then min 65535 (n + 1) else n)) ∧
      ((d.kind ≠ .straddle ∧ d.kind ≠ .permission) ∨ entry = none →
        t.denial.defaultCount = min 65535 (s.denial.defaultCount + 1) ∧ t.policy.slotCounts = s.policy.slotCounts) ∧
      (¬ (s.capture.state = .armed ∧ s.capture.trigger.kind = .onDenial) →
        t.capture = s.capture ∧
        t.eventStream = if d.report then s.eventStream.afterOffer .event s.time.tick denial else s.eventStream) ∧
      (s.capture.state = .armed ∧ s.capture.trigger.kind = .onDenial →
        t.capture = { s.capture with state := .running } ∧ t.isRaised .captureState = true ∧
        (d.report = false → t.eventStream = s.eventStream.afterOffer .event s.time.tick fired) ∧
        (d.report = true →
          t.eventStream =
              (s.eventStream.afterOffer .event s.time.tick denial).afterOffer .event s.time.tick fired ∨
            t.eventStream =
              (s.eventStream.afterOffer .event s.time.tick fired).afterOffer .event s.time.tick denial)) ∧
      (d.report = true → s.eventStream.hasNoRoom .event denial = true → t.isRaised .eventLoss = true) ∧
      t.captureStream = s.captureStream ∧ t.policy.decimation = s.policy.decimation

/-- R22, R59 to R65, R72: an eligible access considered in RUNNING or STOPPING, or in ARMED where it fires the ON_ENTRY
trigger, which moves the state to RUNNING first. With the counter above 1 it is a skip; at 1 it is captured, and at the limit
its group closes: it joins the owed list behind the groups whose GROUP_END is due, which are offered. Frame: the other
counters and the denial account; the capture stream but for the GROUP_ENDs due at a LIMIT close; the event stream but for one
CAPTURE_STATE record for each change of state. -/
def Obligations.ConsideredAccessIsSkippedOrCaptured : Prop :=
  ∀ (s : State) (r : Request) (x : Eligibility) (k c : Nat), r.wellFormed = true → s.portReady →
    s.policy.active.judge s.currentBuffers r = (.pass (some x), some k) →
    s.capture.state = .running ∨ s.capture.state = .stopping ∨
      (s.capture.state = .armed ∧ s.capture.trigger.kind = .onEntry ∧ s.capture.trigger.entry = k) →
    s.policy.decimation[k]? = some c → 1 ≤ c →
    ∃ t, exec (.decisionPoint r) s = .next t ∧
      let now : CaptureState := if s.capture.state = .armed then .running else s.capture.state
      let events : RecordStream :=
        if s.capture.state = .armed then
          s.eventStream.afterOffer .event s.time.tick
            (.captureState .armed .running s.capture.groupNumber s.time.tick)
        else s.eventStream
      (s.capture.state = .armed → t.isRaised .captureState = true) ∧
      (∀ j, j ≠ k → t.policy.decimation[j]? = s.policy.decimation[j]?) ∧ t.policy.slotCounts = s.policy.slotCounts ∧
      t.denial = s.denial ∧
      (1 < c →
        t.policy.decimation[k]? = some (c - 1) ∧ t.captureStream = s.captureStream ∧ t.eventStream = events ∧
        t.queue.getLast?.map (·.captureLink) = some false ∧
        t.capture = { s.capture with
          state := now
          openGroup := s.capture.openGroup.map fun g => { g with skips := min 0xFFFFFFFF (g.skips + 1) } }) ∧
      (c = 1 →
        let g : OpenGroup := s.capture.openGroup.getD { number := s.capture.groupNumber, produced := 0, lost := 0, skips := 0 }
        let g1 : OpenGroup := { g with produced := min 0xFFFFFFFF (g.produced + 1) }
        let pending := s.capture.pendingList ++
          [{ group := g.number, format := x.format, entry := k, timestamp := s.time.tick, address := r.address,
             access := r.kind, privilege := r.privilege, master := r.master, beats := r.beats,
             firstBeat := if x.format = .full ∧ r.kind = .write then r.writeData.head?.map (·.data) else none,
             voided := false }]
        t.policy.decimation[k]? = some x.factor ∧ t.queue.getLast?.map (·.captureLink) = some true ∧
        (¬ (s.capture.trigger.limit ≠ 0 ∧ g1.produced = s.capture.trigger.limit) →
          t.captureStream = s.captureStream ∧ t.eventStream = events ∧
          t.capture = { s.capture with
            state := now, openGroup := some g1, pendingList := pending
            quietTimer := if s.capture.trigger.quiet = 0 then none else some s.capture.trigger.quiet }) ∧
        (s.capture.trigger.limit ≠ 0 ∧ g1.produced = s.capture.trigger.limit →
          let owed := s.capture.owed ++ [{ number := g.number, reason := .limit, timestamp := s.time.tick
                                           produced := g1.produced, lost := g.lost, skips := g.skips }]
          let last : CaptureState := if now = .running ∧ s.capture.trigger.oneShot = false then .running else .stopped
          t.capture = { s.capture with
            state := last, groupNumber := s.capture.groupNumber + 1, openGroup := none, quietTimer := none
            owed := stillOwed pending owed, pendingList := pending } ∧
          t.captureStream = s.captureStream.afterGroupEnds s.time.tick pending owed ∧
          t.eventStream =
            (if last = now then events
             else events.afterOffer .event s.time.tick
              (.captureState now last (s.capture.groupNumber + 1) s.time.tick)) ∧
          (last ≠ now → t.isRaised .captureState = true)))

/-! ## The memory port -/

/-- R120, R121: at an open port the winner is the first of the seven ranks that names a standing request; the run count rises
with a PASS grant over a waiting internal request and else returns to 0; and with the port closed, or no request standing,
nothing changes. -/
def Obligations.GrantGoesByRankAndFairness : Prop :=
  (∀ (s : State) (w : Requester), s.resetAsserted = false → s.arbiter.drain = 0 → s.arbiter.issued.length < 8 →
    s.arbiter.fairness ≤ 8 → (s.ranks.find? (·.1)).map (·.2) = some w →
    ∃ t e, exec .memoryGrant s = .next t ∧ t.arbiter.issued = s.arbiter.issued ++ [e] ∧ e.requester = w ∧ e.voided = false ∧
      t.arbiter.drain = 0 ∧
      t.arbiter.fairness =
        if w = .pass ∧ (s.stands .report || s.stands .event || s.stands .command || s.stands .capture) = true then
          min 8 (s.arbiter.fairness + 1)
        else 0) ∧
  (∀ s : State, s.settled = true →
    s.resetAsserted = true ∨ 0 < s.arbiter.drain ∨ 8 ≤ s.arbiter.issued.length ∨ (∀ w, s.stands w = false) →
    exec .memoryGrant s = .next s)

/-- R26, R30, R122: a grant to PASS issues the oldest UNSENT transaction as it was taken and moves it to AT_MEMORY; nothing
else but the run count changes. -/
def Obligations.PassGrantForwardsTheOldestUnsent : Prop :=
  ∀ (s : State) (before after : List QueueEntry) (e : QueueEntry), s.resetAsserted = false → s.arbiter.drain = 0 →
    s.arbiter.issued.length < 8 → s.settled = true → s.winner = some .pass →
    s.queue = before ++ e :: after → (∀ x ∈ before, x.state ≠ .unsent) → e.state = .unsent →
    ∃ t, exec .memoryGrant s = .next t ∧
      t = { s with
        queue := before ++ { e with state := .atMemory } :: after
        memoryPort := some e.request
        arbiter := { s.arbiter with
          issued := s.arbiter.issued ++
            [{ requester := .pass, isWrite := decide (e.request.kind = .write), beats := e.request.beats, voided := false }]
          fairness := t.arbiter.fairness } }

/-- R124, R158, R160: a grant to REPORT clears the flag of the lowest dirty section and writes that section's words, with
every byte enable set, at the unfolded anchor base plus 4 times its first word. The words' bits (R177) are those of
LayoutsPutFieldsAtTheirBits. -/
def Obligations.ReportGrantWritesTheLowestDirtySection : Prop :=
  ∀ (s : State) (n : Nat), s.resetAsserted = false → s.arbiter.drain = 0 → s.arbiter.issued.length < 8 →
    s.settled = true → s.winner = some .report → n < 8 → s.report.dirty.getLsbD n = true →
    (∀ j, j < n → s.report.dirty.getLsbD j = false) →
    ∃ t c, exec .memoryGrant s = .next t ∧ Section.all[n]? = some c ∧
      let words := s.sectionWords c
      let first := [8, 9, 12, 16, 20, 24, 28, 30][n]?.getD 0
      words.length = [1, 3, 4, 4, 4, 4, 2, 1][n]?.getD 0 ∧
      t = { s with
        report := { s.report with
          dirty := s.report.dirty &&& ~~~(1#8 <<< n)
          inFlight := some { section_ := c, raw := if n = 1 then some s.notices.raw else none } }
        memoryPort := some
          { address := BitVec.ofNat 32 (s.anchorSel.toNat * 0x10000000 + 0xFF00 + 4 * first), kind := .write
            privilege := .supervisor, master := 0, beats := words.length
            writeData := words.map fun w => { data := w, enables := 0b1111 } }
        arbiter := { s.arbiter with
          issued := s.arbiter.issued ++ [{ requester := .report, isWrite := true, beats := words.length, voided := false }]
          fairness := 0 } }

/-- R95, R97, R100, R104, R112, R113, R122: what a grant to a walker issues. A fetch reads 4 beats at the current descriptor; a
burst takes records from the FIFO's head into the buffer at the fill offset, as many whole ones as fit within 16 words and
the remaining space; a status write, in CLOSING and in ABORTING, writes the status word with the pending reason, in bits as
R173 gives, at the descriptor plus 12. The issue list takes the transaction's kind and beats. -/
def Obligations.WalkerGrantIssuesItsTransaction : Prop :=
  ∀ (s : State) (i : StreamId), s.resetAsserted = false → s.arbiter.drain = 0 → s.arbiter.issued.length < 8 →
    s.winner = some i.requester → s.bufferLaw → s.settled = true →
    ∃ t q, exec .memoryGrant s = .next t ∧ t.memoryPort = some q ∧
      t.arbiter = { s.arbiter with
        issued := s.arbiter.issued ++
          [{ requester := i.requester, isWrite := decide (q.kind = .write), beats := q.beats, voided := false }]
        fairness := 0 } ∧
      t = { s with
        eventStream := t.eventStream, captureStream := t.captureStream, eventWalker := t.eventWalker
        captureWalker := t.captureWalker, arbiter := t.arbiter, memoryPort := t.memoryPort } ∧
      (∀ j, j ≠ i → t.walker j = s.walker j ∧ t.stream j = s.stream j) ∧
      ((s.walker i).state ≠ .filling → t.stream i = s.stream i) ∧
      ((s.walker i).state = .fetching →
        t.walker i = { s.walker i with inFlight := some .fetch } ∧
        q = { address := (s.walker i).current, kind := .read, privilege := .supervisor, master := 0, beats := 4
              writeData := [] }) ∧
      ((s.walker i).state = .filling →
        ∃ c rs, (s.walker i).copy = some c ∧ rs ≠ [] ∧ (s.stream i).fifo = rs ++ (t.stream i).fifo ∧
          t.stream i = { s.stream i with fifo := (t.stream i).fifo } ∧
          t.walker i = { s.walker i with inFlight := some (.burst rs) } ∧ fifoWords rs ≤ 16 ∧
          (s.walker i).fillOffset + 4 * fifoWords rs ≤ c.length ∧
          (∀ r rest, (t.stream i).fifo = r :: rest →
            16 < fifoWords rs + r.words ∨ c.length < (s.walker i).fillOffset + 4 * (fifoWords rs + r.words)) ∧
          q = { address := c.buffer + BitVec.ofNat 32 (s.walker i).fillOffset, kind := .write, privilege := .supervisor
                master := 0, beats := fifoWords rs
                writeData := (rs.map Record.encode).flatten.map fun w => { data := w, enables := 0b1111 } }) ∧
      ((s.walker i).state = .closing ∨ (s.walker i).state = .aborting →
        t.walker i = { s.walker i with inFlight := some .status } ∧
        ∃ reason w, (s.walker i).closeReason = some reason ∧
          w.toNat = 2 + 4 * reason.code.toNat + 16 * (s.walker i).gapPresent.toNat + 256 * (s.walker i).fillOffset ∧
          q = { address := (s.walker i).current + 12, kind := .write, privilege := .supervisor, master := 0, beats := 1
                writeData := [{ data := w, enables := 0b1111 }] })

/-- R49, R122, R148: what a grant to COMMAND issues for the loader (the header, then the entry bursts) and for the statistics
engine (16 beats, then 1), and what it changes. The issue list takes the transaction's kind and beats. -/
def Obligations.CommandGrantIssuesImageReadOrStatsBurst : Prop :=
  ∀ s : State, s.resetAsserted = false → s.arbiter.drain = 0 → s.arbiter.issued.length < 8 → s.settled = true →
    s.winner = some .command →
    ∃ t q, exec .memoryGrant s = .next t ∧ t.memoryPort = some q ∧ q.privilege = .supervisor ∧ q.master = 0 ∧
      t.arbiter = { s.arbiter with
        issued := s.arbiter.issued ++
          [{ requester := .command, isWrite := decide (q.kind = .write), beats := q.beats, voided := false }]
        fairness := 0 } ∧
      t = { s with command := t.command, arbiter := t.arbiter, memoryPort := t.memoryPort } ∧
      (∀ l, s.command.loader = some l →
        t.command = { s.command with loader := some { l with inFlight := true } } ∧ q.kind = .read ∧ q.writeData = [] ∧
        (l.part = none → q.address = l.image ∧ q.beats = 8) ∧
        (∀ part, l.part = some part →
          q.address = l.image + BitVec.ofNat 32 (32 + 32 * part.policy.entries.length) ∧
          q.beats = if part.policy.entries.length + 1 = part.count then 8 else 16)) ∧
      (∀ e, s.command.loader = none → s.command.stats = some e →
        t.command = { s.command with stats := some { e with granted := e.granted + 1 } } ∧ q.kind = .write ∧
        (e.granted = 0 → q.address = e.area ∧ q.beats = 16 ∧
          ∀ j < 16, ∃ b, q.writeData[j]? = some b ∧ b.enables = 0b1111 ∧
            (some (b.data.extractLsb' 0 16) = (e.slots[2 * j]?.map (BitVec.ofNat 16))) ∧
            (some (b.data.extractLsb' 16 16) = (e.slots[2 * j + 1]?.map (BitVec.ofNat 16)))) ∧
        (0 < e.granted → q.address = e.area + 64 ∧ q.beats = 1 ∧ ∃ b, q.writeData = [b] ∧ b.enables = 0b1111 ∧
          b.data.extractLsb' 0 16 = BitVec.ofNat 16 e.default ∧ b.data.extractLsb' 16 15 = 0 ∧
          b.data.getLsbD 31 = e.saturated))

/-- R31, R34, R35, R123: memory's answer to a forwarded transaction is stored with the oldest AT_MEMORY entry, which becomes
HELD, or DELIVERING at the head; the issue list loses its head; an ERROR raises MEMFAULT and offers one MEMFAULT record. With
a capture link the head of the pending list leaves it (R66); unless a command beat stands in no order with that, a void
entry offers no capture record and any other offers its record, a record without room counts as lost in its group (R69), and
then the GROUP_ENDs that are due are offered (R70; a void entry holds none back, so it makes none due). -/
def Obligations.MemoryAnswerIsStoredWithItsTransaction : Prop :=
  ∀ (s : State) (e : IssueEntry) (ans : MemResponse) (before after : List QueueEntry) (q : QueueEntry),
    s.owesAnswerTo .pass e → (e.isWrite = false → ans.data.length = e.beats) → s.queueLaw →
    s.queue = before ++ q :: after → (∀ x ∈ before, x.state ≠ .atMemory) → q.state = .atMemory →
    ∃ t, exec (.passMemoryCompletion ans) s = .next t ∧
      t.queue = before ++ { q with
        state := if before = [] then .delivering else .held
        response := some { code := ans.code, data := if q.request.kind = .write then [] else ans.data } } :: after ∧
      t.arbiter.issued.length + 1 = s.arbiter.issued.length ∧ t.arbiter.drain = 0 ∧ t.time.tick = s.time.tick ∧
      t.memoryPort = s.memoryPort ∧ t.processorPort = s.processorPort ∧
      (ans.code = .error →
        t.isRaised .memfault = true ∧ t.policy = s.policy ∧ t.denial = s.denial ∧ t.command.shadow = s.command.shadow ∧
        t.command.count = s.command.count ∧
        t.eventStream = s.eventStream.afterOffer .event s.time.tick
          (.memfault q.request.address q.request.kind q.request.privilege q.request.master s.time.tick)) ∧
      (ans.code = .error ∨ q.request.kind ≠ .write →
        t = { s with
          queue := t.queue, arbiter := t.arbiter, capture := t.capture, eventStream := t.eventStream
          captureStream := t.captureStream, eventWalker := t.eventWalker, captureWalker := t.captureWalker
          command := t.command, report := t.report, notices := t.notices, freeCount := t.freeCount } ∧
        (s.settled = true → t.command = s.command) ∧
        (q.captureLink = false → t.capture = s.capture ∧ t.captureStream = s.captureStream)) ∧
      (q.captureLink = true →
        t.capture.pendingList.length + 1 = s.capture.pendingList.length ∨ s.capture.pendingList = []) ∧
      (q.captureLink = true →
        ans.code = .error ∨ q.request.kind ≠ .write ∨ s.commandBeatIn (s.completedBeats q.request) = none →
        ∀ p rest, s.capture.pendingList = p :: rest →
          let lost := !p.voided && s.captureStream.hasNoRoom .capture (recordOf p ans)
          let ofOpen := s.capture.openGroup.any fun g => decide (g.number = p.group)
          let owed := if lost && !ofOpen then
              updateFirst (fun g => decide (g.number = p.group)) (fun g => { g with lost := min 0xFFFFFFFF (g.lost + 1) })
                s.capture.owed
            else s.capture.owed
          t.capture = { s.capture with
            pendingList := rest
            openGroup := s.capture.openGroup.map fun g =>
              if lost && decide (g.number = p.group) then { g with lost := min 0xFFFFFFFF (g.lost + 1) } else g
            owed := stillOwed rest owed } ∧
          t.captureStream =
            (if p.voided then s.captureStream
             else s.captureStream.afterOffer .capture s.time.tick (recordOf p ans)).afterGroupEnds s.time.tick rest owed ∧
          (lost = true → t.isRaised .captureLoss = true))

/-- R36, R105, R131, R133, R134: a pass-through WRITE completing OKAY is offered to the command unit and to the walkers in
WAITING. The argument beats of a supervisor's write are taken into the shadow first. A command beat (anchor word 0, four
enables) counts one delivery, and where no order is open (no capture link, no walker released) the state is then the one that
the command row of its low 8 bits gives, at the write's privilege, on the merged shadow. Without a command beat, a WAITING
walker whose status word is covered goes to FETCHING, one whose status word is not stays, and nothing else changes but what
a capture link brings. -/
def Obligations.OkayWriteDeliversACommandBeat : Prop :=
  ∀ (s : State) (e : IssueEntry) (ans : MemResponse) (q : QueueEntry),
    s.owesAnswerTo .pass e → (e.isWrite = false → ans.data.length = e.beats) →
    s.queue.find? (fun x => decide (x.state = .atMemory)) = some q → q.request.kind = .write → ans.code = .okay →
    ∃ t shadow, exec (.passMemoryCompletion ans) s = .next t ∧
      let beats := s.completedBeats q.request
      let issued := s.arbiter.issued.tail
      (q.request.privilege = .user → shadow = s.command.shadow) ∧
      (q.request.privilege = .supervisor → s.ShadowTakes beats shadow) ∧
      t.command.count = s.command.count + (if (s.commandBeatIn beats).isSome then 1 else 0) ∧
      (∀ b c, s.commandBeatIn beats = some b → q.captureLink = false → (∀ i, s.releases beats i = false) →
        deliveredBy c = some (q.request.privilege, b.data.extractLsb' 0 8) →
        exec c { s with
          queue := t.queue, arbiter := { s.arbiter with issued := issued }
          command := { s.command with shadow := shadow } } = .next t) ∧
      (s.commandBeatIn beats = none → t.command.shadow = shadow ∧ t.command.count = s.command.count ∧
        (∀ i, s.releases beats i = true →
          t.walker i = { s.walker i with state := .fetching } ∧ t.isDirty i.reportSection = true ∧
          ((s.walker i).inFlight = none → t.stands i.requester = true)) ∧
        (∀ i, (s.walker i).state = .waiting → s.releases beats i = false → t.walker i = s.walker i) ∧
        (s.settled = true → q.captureLink = false →
          (∀ i, s.releases beats i = false → t.walker i = s.walker i) ∧
          t = { s with
            queue := t.queue, arbiter := { s.arbiter with issued := issued }
            command := { s.command with shadow := shadow }, eventWalker := t.eventWalker, captureWalker := t.captureWalker
            report := t.report }))

/-- R38: an answer while the drain count is above 0 lowers it by one and is discarded, also under RESET; R123: an answer to a
voided entry, or to an empty issue list, is discarded. Neither changes anything else, whatever the answer holds (log entry
25 for data that R26 forbids). -/
def Obligations.DrainedAndVoidAnswersReachNoOwner : Prop :=
  (∀ (s : State) (ans : MemResponse), s.settled = true → 0 < s.arbiter.drain →
    exec (.drainResponse ans) s = .next { s with arbiter := { s.arbiter with drain := s.arbiter.drain - 1 } }) ∧
  (∀ (s : State) (ans : MemResponse) (e : IssueEntry) (rest : List IssueEntry), s.settled = true → s.arbiter.drain = 0 →
    s.arbiter.issued = e :: rest → e.voided = true →
    exec (.voidAnswerDiscard ans) s = .next { s with arbiter := { s.arbiter with issued := rest } }) ∧
  (∀ (s : State) (ans : MemResponse), s.settled = true → s.arbiter.drain = 0 → s.arbiter.issued = [] →
    exec (.voidAnswerDiscard ans) s = .next s)

/-- R32, R33, R34, R39, R40: the head's response is handed over (memory's as stored, or for a denial the fill value in every
beat under the response setting's code), the head leaves, and the next DENIED or HELD entry delivers. -/
def Obligations.DeliveryHandsOverTheHeadsResponse : Prop :=
  ∀ (s : State) (h : QueueEntry) (rest : List QueueEntry), s.resetAsserted = false → s.settled = true →
    s.queue = h :: rest → h.state = .delivering →
    ∃ t, exec .deliveryEnd s = .next t ∧
      t = { s with queue := t.queue, processorPort := t.processorPort } ∧
      t.queue.map (·.request) = rest.map (·.request) ∧ t.queue.tail = rest.tail ∧
      (∀ x y, rest.head? = some x → t.queue.head? = some y →
        y = { x with state := if x.state = .denied ∨ x.state = .held then .delivering else x.state }) ∧
      (∀ v, h.decision.verdict = .pass v → t.processorPort = h.response) ∧
      (∀ d, h.decision.verdict = .deny d → t.processorPort = some
        { code := if d.response = .quiet then .okay else .error
          data := if h.request.kind = .write then [] else List.replicate h.request.beats d.fill })

/-! ## Walkers -/

/-- R98, R99, R115: a descriptor fetch's answer: ERROR or the first failing check is the cause of a chain fault, with one
CHAIN_FAULT record; owner PART makes the walker FILLING with words 0 to 2 as its copy; owner SOFTWARE makes it WAITING with
STARVED raised. A flush in progress goes on at PART and ends STATE at SOFTWARE, MEMERR at an ERROR and STATE at a failed check
(R109). In ABORTING the answer is discarded whatever it holds, and the abort completes (R111, R114). -/
def Obligations.DescriptorFetchIsJudged : Prop :=
  (∀ (s : State) (i : StreamId) (e : IssueEntry) (code : RespCode) (w0 w1 w2 w3 : Word),
    s.owesAnswerTo i.requester e → e.isWrite = false → e.beats = 4 → (s.walker i).state = .fetching →
    (s.walker i).inFlight = some .fetch →
    ∃ t, exec (.descriptorFetchCompletion { code := code, data := [w0, w1, w2, w3] }) s = .next t ∧
      let first := firstFailure (descriptorChecks i w0 w1 w2 w3)
      t = { s with
        arbiter := { s.arbiter with issued := s.arbiter.issued.tail }, eventStream := t.eventStream
        eventWalker := t.eventWalker, captureWalker := t.captureWalker, command := t.command, report := t.report
        notices := t.notices, freeCount := t.freeCount } ∧
      (∀ cause, (code = .error ∧ cause = .fetchError) ∨ (code = .okay ∧ first = some cause) →
        (t.walker i).state = .faulted ∧ (t.walker i).copy = none ∧ (t.walker i).current = (s.walker i).current ∧
        (t.walker i).fillOffset = (s.walker i).fillOffset ∧ t.isRaised .chainFault = true ∧
        t.eventStream = s.eventStream.afterOffer .event s.time.tick
          (.chainFault i cause (s.walker i).current s.time.tick) ∧
        ((s.walker i).flushCount.isSome = true → (t.walker i).flushCount = none ∧
          CommandCompletes s t i (if cause = .fetchError then 9 else 6))) ∧
      (code = .okay → first = none → w3.toNat % 4 = 1 → t.eventStream = s.eventStream ∧
        (t.walker i).state = .filling ∧ (t.walker i).fillOffset = 0 ∧ (t.walker i).gapPresent = false ∧
        (t.walker i).lingerAge = 0 ∧ (t.walker i).inFlight = none ∧
        (∀ n, (s.walker i).flushCount = some (n + 1) → (t.walker i).flushCount = some (n + 1)) ∧
        (t.walker i).copy = some { buffer := w0, length := w1.toNat, link := w2 &&& 0xFFFFFFFC, last := w2.getLsbD 0,
                                   stream := i }) ∧
      (code = .okay → first = none → w3.toNat % 4 = 2 → t.eventStream = s.eventStream ∧
        (t.walker i).state = .waiting ∧ (t.walker i).copy = none ∧ (t.walker i).current = (s.walker i).current ∧
        t.isRaised i.starvedNotice = true ∧
        ((s.walker i).flushCount.isSome = true → (t.walker i).flushCount = none ∧ CommandCompletes s t i 6))) ∧
  (∀ (s : State) (i : StreamId) (e : IssueEntry) (ans : MemResponse), s.owesAnswerTo i.requester e → e.isWrite = false →
    ans.data.length = e.beats → (s.walker i).state = .aborting → (s.walker i).inFlight = some .fetch →
    ∃ t, exec (.descriptorFetchCompletion ans) s = .next t ∧
      AbortCompletes s t i (s.stream i) (s.walker i).abortError ∧ t.isRaised i.starvedNotice = s.isRaised i.starvedNotice ∧
      t = { s with
        arbiter := { s.arbiter with issued := s.arbiter.issued.tail }, eventStream := t.eventStream
        captureStream := t.captureStream, eventWalker := t.eventWalker, captureWalker := t.captureWalker
        command := t.command, report := t.report, notices := t.notices, freeCount := t.freeCount })

/-- R101, R102, R83, R108: a record burst's answer while FILLING. OKAY: the fill offset advances by the burst's bytes, the
linger age is 0, the flush count falls by the records carried, and the buffer closes FULL when no space remains or the head
record is larger than what remains, else FLUSH at a flush's end point; otherwise the walker stays FILLING. ERROR: its records
are counted lost, and then the walker faults with one CHAIN_FAULT record, and a flush in progress ends MEMERR (R109). In
ABORTING (R112): OKAY advances the offset, ERROR counts the records lost and sets the abort error flag; a buffer that holds
records is then to be written back with reason ABORT, and with an empty one the abort completes (R114). -/
def Obligations.RecordBurstAdvancesOrFaults : Prop :=
  ∀ (s : State) (i : StreamId) (e : IssueEntry) (rs : List Record) (c : DescriptorCopy), s.owesAnswerTo i.requester e →
    (s.walker i).inFlight = some (.burst rs) → (s.walker i).copy = some c →
    let filled := (s.walker i).fillOffset + 4 * fifoWords rs
    let full : Prop := c.length ≤ filled ∨ ∃ r rest, (s.stream i).fifo = r :: rest ∧ c.length < filled + 4 * r.words
    let counted := (s.stream i).afterLosing rs.length
    ((s.walker i).state = .filling → ∃ t, exec (.recordBurstCompletion .okay) s = .next t ∧
      (t.walker i).fillOffset = filled ∧ (t.walker i).lingerAge = 0 ∧
      (t.walker i).gapPresent = ((s.walker i).gapPresent || rs.any Record.isGap) ∧ (t.walker i).inFlight = none ∧
      (t.walker i).copy = some c ∧ (s.settled = true → 0 < filled → t.command = s.command) ∧
      t = { s with
        arbiter := { s.arbiter with issued := s.arbiter.issued.tail }, eventWalker := t.eventWalker
        captureWalker := t.captureWalker, command := t.command, report := t.report, notices := t.notices
        freeCount := t.freeCount } ∧
      (0 < filled → (t.walker i).flushCount = (s.walker i).flushCount.map (· - rs.length)) ∧
      (0 < filled → full → (t.walker i).state = .closing ∧ (t.walker i).closeReason = some .full) ∧
      (0 < filled → ¬ full → ∀ n, (s.walker i).flushCount = some n → n ≤ rs.length →
        (t.walker i).state = .closing ∧ (t.walker i).closeReason = some .flush) ∧
      (¬ full → (∀ n, (s.walker i).flushCount = some n → rs.length < n) → (t.walker i).state = .filling)) ∧
    ((s.walker i).state = .filling → ∃ t, exec (.recordBurstCompletion .error) s = .next t ∧
      (t.walker i).state = .faulted ∧ (t.walker i).copy = none ∧ (t.walker i).current = (s.walker i).current ∧
      (t.walker i).fillOffset = (s.walker i).fillOffset ∧ t.isRaised .chainFault = true ∧
      (0 < rs.length → t.isRaised i.lossNotice = true) ∧
      (let fault := Record.chainFault i .burstError (s.walker i).current s.time.tick;
        (i = .capture → t.captureStream = counted ∧
          t.eventStream = s.eventStream.afterOffer .event s.time.tick fault) ∧
        (i = .event → t.captureStream = s.captureStream ∧
          t.eventStream = counted.afterOffer .event s.time.tick fault)) ∧
      ((s.walker i).flushCount.isSome = true → (t.walker i).flushCount = none ∧ CommandCompletes s t i 9) ∧
      t = { s with
        arbiter := { s.arbiter with issued := s.arbiter.issued.tail }, eventStream := t.eventStream
        captureStream := t.captureStream, eventWalker := t.eventWalker, captureWalker := t.captureWalker
        command := t.command, report := t.report, notices := t.notices, freeCount := t.freeCount }) ∧
    ((s.walker i).state = .aborting → ∃ t, exec (.recordBurstCompletion .okay) s = .next t ∧
      (0 < filled → t.walker i = { s.walker i with
          fillOffset := filled, gapPresent := (s.walker i).gapPresent || rs.any Record.isGap, lingerAge := 0
          flushCount := (s.walker i).flushCount.map (· - rs.length), inFlight := none, closeReason := some .abort } ∧
        t.stands i.requester = true ∧ (s.settled = true → t.command = s.command) ∧ ∀ j, t.stream j = s.stream j) ∧
      (filled = 0 → AbortCompletes s t i (s.stream i) (s.walker i).abortError) ∧
      t = { s with
        arbiter := { s.arbiter with issued := s.arbiter.issued.tail }, eventStream := t.eventStream
        captureStream := t.captureStream, eventWalker := t.eventWalker, captureWalker := t.captureWalker
        command := t.command, report := t.report, notices := t.notices, freeCount := t.freeCount }) ∧
    ((s.walker i).state = .aborting → ∃ t, exec (.recordBurstCompletion .error) s = .next t ∧
      (0 < rs.length → t.isRaised i.lossNotice = true) ∧
      (0 < (s.walker i).fillOffset → t.walker i = { s.walker i with
          inFlight := none, abortError := true, closeReason := some .abort } ∧ t.stands i.requester = true ∧
        t.stream i = counted ∧ t.isRaised .chainFault = s.isRaised .chainFault ∧
        (s.settled = true → t.command = s.command) ∧ ∀ j, j ≠ i → t.stream j = s.stream j) ∧
      ((s.walker i).fillOffset = 0 → AbortCompletes s t i counted true) ∧
      t = { s with
        arbiter := { s.arbiter with issued := s.arbiter.issued.tail }, eventStream := t.eventStream
        captureStream := t.captureStream, eventWalker := t.eventWalker, captureWalker := t.captureWalker
        command := t.command, report := t.report, notices := t.notices, freeCount := t.freeCount })

/-- R104, R115: a status write's answer while CLOSING. OKAY raises the buffer notice and follows the link, or ends the chain
at LAST with CHAIN_END; ERROR faults the walker, without the buffer notice. A flush at its end point ends there with DONE or
MEMERR (R108); one that is not ends STATE at LAST, goes on along the link, and ends MEMERR at ERROR (R109). In ABORTING (R112,
R113) OKAY raises the buffer notice and ERROR counts as the abort's error; the abort completes, and no link is followed and
no CHAIN_END raised. -/
def Obligations.StatusWriteHandsTheBufferBack : Prop :=
  ∀ (s : State) (i : StreamId) (e : IssueEntry) (c : DescriptorCopy), s.owesAnswerTo i.requester e →
    (s.walker i).inFlight = some .status → (s.walker i).copy = some c →
    ((s.walker i).state = .closing → ∃ t, exec (.statusWriteCompletion .okay) s = .next t ∧
      t.isRaised i.bufferNotice = true ∧ (t.walker i).copy = none ∧ (t.walker i).inFlight = none ∧
      t.isDirty i.reportSection = true ∧
      t = { s with
        arbiter := { s.arbiter with issued := s.arbiter.issued.tail }, eventWalker := t.eventWalker
        captureWalker := t.captureWalker, command := t.command, report := t.report, notices := t.notices
        freeCount := t.freeCount } ∧
      (c.last = false → (t.walker i).state = .fetching ∧ (t.walker i).current = c.link ∧ (t.walker i).fillOffset = 0 ∧
        (t.walker i).gapPresent = false ∧ (t.walker i).lingerAge = 0) ∧
      (c.last = true → (t.walker i).state = .ended ∧ (t.walker i).current = (s.walker i).current ∧
        (t.walker i).fillOffset = (s.walker i).fillOffset ∧ t.isRaised .chainEnd = true) ∧
      ((s.walker i).flushCount = some 0 → (t.walker i).flushCount = none ∧ CommandCompletes s t i 1) ∧
      (∀ n, (s.walker i).flushCount = some (n + 1) →
        (c.last = true → (t.walker i).flushCount = none ∧ CommandCompletes s t i 6) ∧
        (c.last = false → (t.walker i).flushCount = some (n + 1) ∧ (s.settled = true → t.command = s.command))) ∧
      (s.settled = true → (s.walker i).flushCount = none → t.command = s.command)) ∧
    ((s.walker i).state = .closing → ∃ t, exec (.statusWriteCompletion .error) s = .next t ∧
      (t.walker i).state = .faulted ∧ (t.walker i).copy = none ∧ (t.walker i).current = (s.walker i).current ∧
      (t.walker i).fillOffset = (s.walker i).fillOffset ∧ t.isRaised .chainFault = true ∧
      t.isRaised i.bufferNotice = s.isRaised i.bufferNotice ∧
      t.eventStream = s.eventStream.afterOffer .event s.time.tick
        (.chainFault i .statusError (s.walker i).current s.time.tick) ∧
      ((s.walker i).flushCount.isSome = true → (t.walker i).flushCount = none ∧ CommandCompletes s t i 9) ∧
      t = { s with
        arbiter := { s.arbiter with issued := s.arbiter.issued.tail }, eventStream := t.eventStream
        eventWalker := t.eventWalker, captureWalker := t.captureWalker, command := t.command, report := t.report
        notices := t.notices, freeCount := t.freeCount }) ∧
    ((s.walker i).state = .aborting → ∀ code, ∃ t, exec (.statusWriteCompletion code) s = .next t ∧
      AbortCompletes s t i (s.stream i) ((s.walker i).abortError || decide (code = .error)) ∧
      t.isRaised i.bufferNotice = (s.isRaised i.bufferNotice || decide (code = .okay)) ∧
      t.isRaised .chainEnd = s.isRaised .chainEnd ∧ t.isDirty i.reportSection = true ∧
      t = { s with
        arbiter := { s.arbiter with issued := s.arbiter.issued.tail }, eventStream := t.eventStream
        captureStream := t.captureStream, eventWalker := t.eventWalker, captureWalker := t.captureWalker
        command := t.command, report := t.report, notices := t.notices, freeCount := t.freeCount })

/-! ## Report writer and notices -/

/-- R161, R163, R164: a section write's answer. The write in flight is given up; a notices write publishes the raw set it
carried, OKAY or ERROR, and sets the line; an ERROR sets the fault flag, and dirties the notices section if it was clear. -/
def Obligations.ReportAnswerPublishesAndFlagsErrors : Prop :=
  ∀ (s : State) (e : IssueEntry) (w : ReportWrite) (code : RespCode), s.owesAnswerTo .report e → s.settled = true →
    s.report.inFlight = some w →
    exec (.reportWriteCompletion code) s = .next { s with
      arbiter := { s.arbiter with issued := s.arbiter.issued.tail }
      report :=
        { dirty := if code = .error ∧ s.report.fault = false then s.report.dirty ||| 0x02 else s.report.dirty
          inFlight := none
          fault := s.report.fault || decide (code = .error) }
      notices := match w.raw with
        | some raw => { s.notices with published := raw, line := decide (raw &&& s.notices.enable ≠ 0) }
        | none => s.notices }

/-! ## Statistics engine and loader -/

/-- R49, R135, R136: the first STATS burst's answer keeps the engine at work; the second completes STATS, DONE if both were
OKAY and else MEMERR, with the number of its delivery. -/
def Obligations.SecondStatsAnswerCompletesTheCommand : Prop :=
  ∀ (s : State) (e : IssueEntry) (g : StatsEngine) (code : RespCode) (n : BitVec 8), s.owesAnswerTo .command e →
    s.settled = true → s.command.loader = none → s.command.stats = some g → g.answered < g.granted →
    s.command.running = some { code := 0x0F, number := n, stream := none } →
    (g.answered = 0 → exec (.statsBurstCompletion code) s = .next { s with
      arbiter := { s.arbiter with issued := s.arbiter.issued.tail }
      command := { s.command with
        stats := some { g with answered := 1, error := g.error || decide (code = .error) } } }) ∧
    (1 ≤ g.answered → exec (.statsBurstCompletion code) s = .next { s with
      arbiter := { s.arbiter with issued := s.arbiter.issued.tail }
      command := { s.command with
        stats := none
        running := none
        result := { code := 0x0F, result := if g.error = true ∨ code = .error then 9 else 1, fieldIndex := 0, number := n } }
      notices := { s.notices with raw := s.notices.raw ||| 0x400 }
      report := { s.report with
        dirty := s.report.dirty ||| 0x01 ||| (if s.notices.raw.getLsbD 10 then 0 else 0x02) } })

/-- R149, R151: the header read's answer. ERROR ends the load MEMERR with the staged table EMPTY. The first failing check ends
it INVALID with its field index; a passing header of count 0 ends it DONE with the staged table VALID; each end dirties the
policy and the result section and raises COMMAND_DONE (R136). Any other answer leaves the load running, with no section
dirtied and no notice raised. -/
def Obligations.HeaderReadIsCheckedInOrder : Prop :=
  ∀ (s : State) (e : IssueEntry) (l : Loader) (n : BitVec 8) (code : RespCode) (data : List Word),
    s.owesAnswerTo .command e → e.isWrite = false → data.length = e.beats → s.command.loader = some l →
    l.inFlight = true → l.part = none → s.command.running = some { code := 0x02, number := n, stream := none } →
    s.settled = true →
    let w := fun i => data.getD i 0
    let answered := exec (.policyReadCompletion { code := code, data := data }) s
    (code = .error → answered = .next (s.loadEnded .empty n 9 0)) ∧
    (∀ i, code = .okay → firstFailure (headerChecks w) = some i →
      answered = .next (s.loadEnded .empty n 8 (BitVec.ofNat 12 i))) ∧
    (code = .okay → firstFailure (headerChecks w) = none → ∃ p, HeaderRead w p ∧
      (w 1 = 0 → answered = .next (s.loadEnded (.valid p) n 1 0)) ∧
      (w 1 ≠ 0 → answered = .next
        (s.loadGoesOn { l with part := some { count := (w 1).toNat, policy := p }, inFlight := false })))

/-- R150, R151: the answer to an entry burst, of one entry record when it is the last and of two otherwise. ERROR ends the load
MEMERR with the staged table EMPTY, its words unchecked. With OKAY the first failing check, in image word order, ends the load
INVALID with its image word number; a passing burst that holds the last entry ends it DONE, VALID with the entries read; each
end dirties the policy and the result section and raises COMMAND_DONE (R136). Any other answer leaves the load running with
the entries read, with no section dirtied and no notice raised. -/
def Obligations.EntryBurstIsCheckedInOrder : Prop :=
  ∀ (s : State) (e : IssueEntry) (l : Loader) (part : LoadedPart) (n : BitVec 8) (code : RespCode) (data : List Word),
    s.owesAnswerTo .command e → e.isWrite = false → data.length = e.beats → s.command.loader = some l →
    l.inFlight = true → l.part = some part → s.command.running = some { code := 0x02, number := n, stream := none } →
    s.settled = true →
    (data.length = 8 ∧ part.policy.entries.length + 1 = part.count) ∨
      (data.length = 16 ∧ part.policy.entries.length + 2 ≤ part.count) →
    let k := part.policy.entries.length
    let w := fun i => data.getD i 0
    let checks := entryChecks part.policy.width (8 + 8 * k) w ++
      if data.length = 16 then entryChecks part.policy.width (8 + 8 * (k + 1)) (fun i => w (8 + i)) else []
    let answered := exec (.policyReadCompletion { code := code, data := data }) s
    (code = .error → answered = .next (s.loadEnded .empty n 9 0)) ∧
    (∀ i, code = .okay → firstFailure checks = some i →
      answered = .next (s.loadEnded .empty n 8 (BitVec.ofNat 12 i))) ∧
    (code = .okay → firstFailure checks = none → ∃ xs : List RegionEntry, xs.length = data.length / 8 ∧
      (∀ j x, xs[j]? = some x → EntryRead (fun i => w (8 * j + i)) x) ∧
      let policy : Policy := { part.policy with entries := part.policy.entries ++ xs }
      (k + xs.length = part.count → answered = .next (s.loadEnded (.valid policy) n 1 0)) ∧
      (k + xs.length < part.count → answered = .next
        (s.loadGoesOn { l with part := some { part with policy := policy }, inFlight := false })))

/-! ## Time -/

/-- R87, R63, R103: a clock below the divider raises the prescale count; at the divider the count returns to 0 and the tick
count rises by one, 0xFFFF_FFFF to 0. Such an advance takes a tick from a quiet timer that does not expire, and adds one, up
to 65535, to the linger age of a walker that is FILLING with a fill offset above 0, whether or not a burst is in flight; any
other age stays. A resting walker whose age reaches its setting closes LINGER, one whose head record (a GROUP_END or
CAPTURE_STATE that the same event brought) does not fit closes FULL, either where both hold (log entry 4), and no other
walker changes. That the row TICK_ADVANCE is such a clock, with the same outcome, is the model's reading (DEDUCED, log entry
11). -/
def Obligations.ClockCountsAndAdvancesTheTick : Prop :=
  (∀ s : State, s.resetAsserted = false → s.settled = true → s.time.prescale + 1 < s.time.divider →
    exec .clock s = .next { s with time := { s.time with prescale := s.time.prescale + 1 } }) ∧
  (∀ s : State, s.resetAsserted = false → s.time.divider ≤ s.time.prescale + 1 →
    ∃ t, exec .clock s = .next t ∧ exec .tickAdvance s = .next t ∧
      t.time = { s.time with tick := s.time.tick + 1, prescale := 0 } ∧
      t = { s with
        time := t.time, capture := t.capture, eventStream := t.eventStream, captureStream := t.captureStream
        eventWalker := t.eventWalker, captureWalker := t.captureWalker, command := t.command, report := t.report
        notices := t.notices, freeCount := t.freeCount } ∧
      (∀ q, s.capture.quietTimer = some q → 1 < q → t.capture = { s.capture with quietTimer := some (q - 1) }) ∧
      (s.capture.quietTimer = none → t.capture = s.capture) ∧
      ((∀ q, s.capture.quietTimer = some q → 1 < q) →
        t.eventStream = s.eventStream ∧ t.captureStream = s.captureStream) ∧
      (∀ i, (t.walker i).lingerAge = (s.walker i).agedBy) ∧
      (s.settled = true → t.command = s.command ∧ ∀ i,
        let aged := { s.walker i with lingerAge := (s.walker i).agedBy }
        let resting : Prop := aged.state = .filling ∧ aged.inFlight = none
        let linger : Prop := resting ∧ 0 < aged.fillOffset ∧ s.lingerSetting i ≠ 0 ∧ s.lingerSetting i ≤ aged.lingerAge
        let full : Prop := resting ∧ ∃ c r rest, aged.copy = some c ∧ (t.stream i).fifo = r :: rest ∧
          c.length < aged.fillOffset + 4 * r.words
        let closed (reason : CloseReason) : Walker := { aged with state := .closing, closeReason := some reason }
        (linger → ¬ full → t.walker i = closed .linger) ∧ (full → ¬ linger → t.walker i = closed .full) ∧
        (linger → full → t.walker i = closed .linger ∨ t.walker i = closed .full) ∧
        (linger ∨ full → t.isDirty i.reportSection = true) ∧ (¬ linger → ¬ full → t.walker i = aged)))

/-- R63, R64, R70, R72: the quiet timer's last tick closes the open group with reason QUIET: it joins the owed list, and the
GROUP_ENDs that are due are offered, its own among them if no live pending entry carries its number. That the row
QUIET_TIMER_EXPIRY is itself the clock with its advance, tick + 1 in its event, with CLOCK's outcome, is the model's reading
(DEDUCED, log entry 11). -/
def Obligations.QuietExpiryClosesTheGroup : Prop :=
  ∀ (s : State) (g : OpenGroup), s.resetAsserted = false → s.time.divider ≤ s.time.prescale + 1 →
    s.capture.quietTimer = some 1 → s.capture.openGroup = some g → s.groupLaw →
    ∃ t, exec .quietTimerExpiry s = .next t ∧ exec .clock s = .next t ∧ t.time = { s.time with tick := s.time.tick + 1, prescale := 0 } ∧
      let owed := s.capture.owed ++ [{ number := g.number, reason := .quiet, timestamp := s.time.tick + 1
                                       produced := g.produced, lost := g.lost, skips := g.skips }]
      let last : CaptureState :=
        if s.capture.state = .running ∧ s.capture.trigger.oneShot = false then .running else .stopped
      t.capture = { s.capture with
        state := last, groupNumber := s.capture.groupNumber + 1, openGroup := none, quietTimer := none
        owed := stillOwed s.capture.pendingList owed } ∧
      t.captureStream = s.captureStream.afterGroupEnds (s.time.tick + 1) s.capture.pendingList owed ∧
      t.eventStream =
        (if last = s.capture.state then s.eventStream
         else s.eventStream.afterOffer .event (s.time.tick + 1)
          (.captureState s.capture.state last (s.capture.groupNumber + 1) (s.time.tick + 1))) ∧
      t = { s with
        time := t.time, capture := t.capture, eventStream := t.eventStream, captureStream := t.captureStream
        eventWalker := t.eventWalker, captureWalker := t.captureWalker, command := t.command, report := t.report
        notices := t.notices, freeCount := t.freeCount }

/-- R103: the advance that brings a resting walker's linger age to its setting closes its buffer with reason LINGER; a running
quiet timer that does not expire there loses a tick (R63). That the row LINGER_CLOSE is itself the clock with its advance,
tick + 1 and prescale count 0 in its event, with CLOCK's outcome, is the model's reading (DEDUCED, log entry 11). -/
def Obligations.LingerAgeClosesTheBuffer : Prop :=
  ∀ (s : State) (i : StreamId), s.resetAsserted = false → s.settled = true →
    s.time.divider ≤ s.time.prescale + 1 → (∀ n, s.capture.quietTimer = some n → 1 < n) → (s.walker i).state = .filling →
    (s.walker i).inFlight = none → 0 < (s.walker i).fillOffset → s.lingerSetting i ≠ 0 →
    s.lingerSetting i ≤ 65535 → s.lingerSetting i = (s.walker i).lingerAge + 1 →
    ∃ t, exec (.lingerClose i) s = .next t ∧ exec .clock s = .next t ∧ (t.walker i).state = .closing ∧
      (t.walker i).closeReason = some .linger ∧ (t.walker i).fillOffset = (s.walker i).fillOffset ∧
      (t.walker i).copy = (s.walker i).copy ∧ t.time = { s.time with tick := s.time.tick + 1, prescale := 0 } ∧
      t.capture = { s.capture with quietTimer := s.capture.quietTimer.map (· - 1) } ∧
      t.isDirty i.reportSection = true ∧
      t = { s with
        time := t.time, capture := t.capture, eventWalker := t.eventWalker, captureWalker := t.captureWalker
        report := t.report, freeCount := t.freeCount }

/-! ## Delivery of commands -/

/-- R131: a supervisor's write completion updates the shadow by all its matching beats in order, byte by byte where an enable
is set; a user's changes nothing; nothing else changes. The row ANCHOR_ARGUMENT_WRITE takes argument beats only: that it
delivers nothing where a beat matches anchor word 0 whole is the model's choice (log entry 8), and PASS_MEMORY_COMPLETION
delivers there. -/
def Obligations.SupervisorBeatsUpdateTheShadow : Prop :=
  ∀ (s : State) (p : Privilege) (m : BitVec 3) (beats : List CompletedBeat), s.resetAsserted = false → s.settled = true →
    WriteCompletion.wellFormed { privilege := p, master := m, beats := beats } = true →
    ∃ t, exec (.anchorArgumentWrite { privilege := p, master := m, beats := beats }) s = .next t ∧
      (p = .supervisor → s.ShadowTakes beats t.command.shadow ∧
        t = { s with command := { s.command with shadow := t.command.shadow } }) ∧
      (p = .user → t = s)

/-- R134 stages 1 to 3, R136: while the unit is BUSY every delivery is refused BUSY; a USER's is refused PRIVILEGE; a code
that names no command is refused UNKNOWN. A refused command changes nothing but the count, the result word and COMMAND_DONE,
with the dirty flags of their sections. -/
def Obligations.RefusedDeliveryChangesOnlyItsAccount : Prop :=
  ∀ (s : State) (c : Instr) (p : Privilege) (code : BitVec 8), s.resetAsserted = false → s.settled = true →
    deliveredBy c = some (p, code) →
    (s.command.running.isSome = true → exec c s = .next (s.completed code 2)) ∧
    (s.command.running = none → p = .user → exec c s = .next (s.completed code 3)) ∧
    (s.command.running = none → p = .supervisor → ¬ (1 ≤ code.toNat ∧ code.toNat ≤ 0x11) →
      exec c s = .next (s.completed code 4))

/-- R134 stage 4 with the argument checks of R48, R56, R57, R85, R89, R96, R106, R108, R141, R142 and R147: an argument out of
range is refused BADARG and changes nothing else. -/
def Obligations.ArgumentOutOfRangeIsRefused : Prop :=
  ∀ s : State, s.ready →
    ((s.arg 1).toNat % 64 ≠ 0 ∨ 0xFFFFFBC0 < (s.arg 1).toNat →
      exec (.loadPolicy .supervisor) s = .next (s.completed 0x02 5)) ∧
    (1 < (s.arg 1).toNat ∨ (s.arg 2).toNat % 16 ≠ 0 →
      exec (.setChain .supervisor) s = .next (s.completed 0x05 5) ∧
      exec (.setChainAbort .supervisor) s = .next (s.completed 0x05 5)) ∧
    (1 < (s.arg 1).toNat → exec (.kick .supervisor) s = .next (s.completed 0x06 5) ∧
      exec (.flush .supervisor) s = .next (s.completed 0x07 5) ∧
      exec (.captureStopNow .supervisor) s = .next (s.completed 0x09 5) ∧
      exec (.captureStopAtGroupEnd .supervisor) s = .next (s.completed 0x09 5) ∧
      exec (.mark .supervisor) s = .next (s.completed 0x0A 5)) ∧
    (2 < (s.arg 1).toNat ∨ (s.arg 1 = 2 ∧ 31 < (s.arg 2).toNat) ∨ 65535 < (s.arg 3).toNat ∨ 4096 < (s.arg 4).toNat ∨
        1 < (s.arg 5).toNat →
      exec (.captureStart .supervisor) s = .next (s.completed 0x08 5)) ∧
    (2 ^ 13 ≤ (s.arg 1).toNat → exec (.ack .supervisor) s = .next (s.completed 0x0B 5) ∧
      exec (.noticeEnable .supervisor) s = .next (s.completed 0x0C 5)) ∧
    ((s.arg 1).toNat % 64 ≠ 0 ∨ 0xFFFFFF80 < (s.arg 1).toNat ∨ 1 < (s.arg 2).toNat →
      exec (.stats .supervisor) s = .next (s.completed 0x0F 5)) ∧
    ((s.arg 1).toNat < 1 ∨ 65536 < (s.arg 1).toNat ∨ 65535 < (s.arg 2).toNat ∨ 65535 < (s.arg 3).toNat ∨
        (s.arg 4).toNat < 64 ∨ 1008 < (s.arg 4).toNat ∨ (s.arg 4).toNat % 16 ≠ 0 →
      exec (.setTiming .supervisor) s = .next (s.completed 0x10 5))

/-- R134 stage 5 with R55, R96, R106, R108 and R153: a command whose block is in the wrong state is refused STATE, and COMMIT
without a VALID staged table NOSTAGED; nothing else changes. -/
def Obligations.WrongBlockStateIsRefused : Prop :=
  ∀ s : State, s.ready →
    (s.policy.staged = .empty → exec (.commit .supervisor) s = .next (s.completed 0x03 7)) ∧
    (∀ i : StreamId, (s.arg 1).toNat = (if i = .event then 0 else 1) →
      ((s.arg 2).toNat % 16 = 0 → s.arg 2 ≠ 0 →
        (s.walker i).state = .fetching ∨ (s.walker i).state = .waiting ∨ (s.walker i).state = .filling ∨
          (s.walker i).state = .closing →
        exec (.setChain .supervisor) s = .next (s.completed 0x05 6)) ∧
      ((s.walker i).state ≠ .waiting → exec (.kick .supervisor) s = .next (s.completed 0x06 6)) ∧
      ((s.walker i).state ≠ .filling → exec (.flush .supervisor) s = .next (s.completed 0x07 6))) ∧
    ((s.arg 1).toNat ≤ 2 → (s.arg 1 = 2 → (s.arg 2).toNat ≤ 31) → (s.arg 3).toNat ≤ 65535 → (s.arg 4).toNat ≤ 4096 →
      (s.arg 5).toNat ≤ 1 → s.capture.state ≠ .stopped →
      exec (.captureStart .supervisor) s = .next (s.completed 0x08 6)) ∧
    (s.arg 1 = 0 → s.capture.state = .stopped → exec (.captureStopNow .supervisor) s = .next (s.completed 0x09 6)) ∧
    (s.arg 1 = 1 → s.capture.state = .stopped ∨ s.capture.state = .stopping →
      exec (.captureStopAtGroupEnd .supervisor) s = .next (s.completed 0x09 6))

/-! ## Commands carried out -/

/-- R138: REFRESH marks all eight sections dirty, clears the report-fault flag and completes DONE. -/
def Obligations.RefreshMarksEverySectionDirty : Prop :=
  ∀ s : State, s.ready →
    exec (.refresh .supervisor) s =
      .next (State.completed { s with report := { s.report with dirty := 0xFF, fault := false } } 0x01 1)

/-- R147, R135: LOAD_POLICY gives the staged policy up, makes the unit BUSY and raises the header read's request. R156: DISCARD
empties the staged table, dirties the policy section if it was VALID, and is DONE. -/
def Obligations.LoadAndDiscardGiveUpTheStagedPolicy : Prop :=
  ∀ s : State, s.ready →
    ((s.arg 1).toNat % 64 = 0 → (s.arg 1).toNat ≤ 0xFFFFFBC0 →
      ∃ t, exec (.loadPolicy .supervisor) s = .next t ∧ t.stands .command = true ∧
        t = { s with
          policy := { s.policy with staged := .loading }
          command := { s.command with
            count := s.command.count + 1
            running := some { code := 0x02, number := s.command.count + 1, stream := none }
            loader := some { image := s.arg 1, part := none, inFlight := false } }
          report := { s.report with dirty := s.report.dirty ||| 0x40 } }) ∧
    (s.policy.staged ≠ .loading →
      exec (.discard .supervisor) s = .next (State.completed { s with
        policy := { s.policy with staged := .empty }
        report := { s.report with
          dirty := if s.policy.staged = .empty then s.report.dirty else s.report.dirty ||| 0x40 } } 0x04 1))

/-- R153, R154, R155: COMMIT of a VALID staged table swaps the tables, sets the 32 counters to 1 and the 33 counts to 0, counts
itself, offers one COMMIT record, dirties the policy section and completes DONE. -/
def Obligations.CommitSwapsTheTables : Prop :=
  ∀ (s : State) (p : Policy), s.ready → s.policy.staged = .valid p →
    ∃ t, exec (.commit .supervisor) s = .next t ∧
      t.policy = { active := p, staged := .valid s.policy.active, commitCount := s.policy.commitCount + 1
                   decimation := Vector.replicate 32 1, slotCounts := Vector.replicate 32 0 } ∧
      t.denial = { s.denial with defaultCount := 0 } ∧
      t.eventStream = s.eventStream.afterOffer .event s.time.tick
        (.commit p.entries.length (s.policy.commitCount + 1) s.time.tick) ∧
      t.report.dirty.getLsbD 6 = true ∧ t.isRaised .commandDone = true ∧
      t.command = { s.command with
        count := s.command.count + 1
        result := { code := 0x03, result := 1, fieldIndex := 0, number := s.command.count + 1 } } ∧
      t = { s with
        policy := t.policy, denial := t.denial, eventStream := t.eventStream, command := t.command, report := t.report
        notices := t.notices, eventWalker := t.eventWalker, freeCount := t.freeCount }

/-- R96: SET_CHAIN with an address starts the named walker of IDLE, ENDED or FAULTED on its chain, at once and DONE, with the
other walker, the FIFO, the lost count and the notices but COMMAND_DONE as they stand. -/
def Obligations.SetChainStartsTheWalker : Prop :=
  ∀ (s : State) (i : StreamId), s.ready → (s.arg 1).toNat = (if i = .event then 0 else 1) →
    (s.arg 2).toNat % 16 = 0 → s.arg 2 ≠ 0 →
    (s.walker i).state = .idle ∨ (s.walker i).state = .ended ∨ (s.walker i).state = .faulted →
    exec (.setChain .supervisor) s = .next (State.completed (State.setWalker { s with
      report := { s.report with dirty := s.report.dirty ||| (if i = .event then 0x08 else 0x10) } } i
        { s.walker i with
          state := .fetching, current := s.arg 2, fillOffset := 0, gapPresent := false, lingerAge := 0 }) 0x05 1)

/-- R110, R114: an abort of a walker that owes nothing completes at once: its FIFO is discarded and counted lost, it is IDLE
with address, copy, offset and age given up, and the command is DONE. With a part-filled buffer at rest the walker is ABORTING
with reason ABORT, and with a transaction in flight or a close in progress ABORTING as it stands; the unit is BUSY with that
stream. -/
def Obligations.AbortCompletesOrClosesFirst : Prop :=
  ∀ (s : State) (i : StreamId), s.ready → (s.arg 1).toNat = (if i = .event then 0 else 1) → s.arg 2 = 0 →
    ∃ t, exec (.setChainAbort .supervisor) s = .next t ∧ t.command.count = s.command.count + 1 ∧
      ((s.walker i).state = .idle ∨ (s.walker i).state = .ended ∨ (s.walker i).state = .faulted ∨
          (s.walker i).state = .waiting ∨ ((s.walker i).state = .fetching ∧ (s.walker i).inFlight = none) ∨
          ((s.walker i).state = .filling ∧ (s.walker i).inFlight = none ∧ (s.walker i).fillOffset = 0) →
        t.command.running = none ∧
        t.command.result = { code := 0x05, result := 1, fieldIndex := 0, number := s.command.count + 1 } ∧
        (t.stream i).fifo = [] ∧
        ((s.stream i).fifo ≠ [] → (t.stream i).lost = min 65535 ((s.stream i).lost + (s.stream i).fifo.length)) ∧
        ((s.stream i).fifo = [] → t.stream i = s.stream i) ∧
        ((s.stream i).fifo ≠ [] → t.isRaised i.lossNotice = true) ∧
        (t.walker i).state = .idle ∧ (t.walker i).current = 0 ∧ (t.walker i).copy = none ∧
        (t.walker i).fillOffset = 0 ∧ (t.walker i).lingerAge = 0 ∧ (t.walker i).inFlight = none) ∧
      ((s.walker i).state = .filling → (s.walker i).inFlight = none → 0 < (s.walker i).fillOffset →
        t.command.running = some { code := 0x05, number := s.command.count + 1, stream := some i } ∧
        (t.walker i).state = .aborting ∧ (t.walker i).closeReason = some .abort ∧ (t.walker i).copy = (s.walker i).copy ∧
        t.stream i = s.stream i) ∧
      (((s.walker i).state = .fetching ∨ (s.walker i).state = .filling) ∧ (s.walker i).inFlight.isSome = true ∨
          (s.walker i).state = .closing →
        t.command.running = some { code := 0x05, number := s.command.count + 1, stream := some i } ∧
        t.walker i = { s.walker i with state := .aborting, abortError := false } ∧ t.stream i = s.stream i) ∧
      (∀ j, j ≠ i → t.walker j = s.walker j ∧ t.stream j = s.stream j) ∧
      t = { s with
        command := { s.command with count := t.command.count, running := t.command.running, result := t.command.result }
        eventStream := t.eventStream, captureStream := t.captureStream, eventWalker := t.eventWalker
        captureWalker := t.captureWalker, report := t.report, notices := t.notices }

/-- R106: KICK of no stream is refused BADARG; a WAITING walker refetches its descriptor and the command is DONE in that
event; any other walker is left as it stands, refused STATE. -/
def Obligations.KickRefetchesAWaitingWalker : Prop :=
  ∀ s : State, s.ready →
    (1 < (s.arg 1).toNat → exec (.kick .supervisor) s = .next (s.completed 0x06 5)) ∧
    (∀ i : StreamId, (s.arg 1).toNat = (if i = .event then 0 else 1) →
      ((s.walker i).state = .waiting → exec (.kick .supervisor) s = .next (State.completed (State.setWalker { s with
          report := { s.report with dirty := s.report.dirty ||| (if i = .event then 0x08 else 0x10) } } i
            { s.walker i with state := .fetching }) 0x06 1)) ∧
      ((s.walker i).state ≠ .waiting → exec (.kick .supervisor) s = .next (s.completed 0x06 6)))

/-- R108: FLUSH of a FILLING walker counts the records in the FIFO and in flight, and leaves the unit BUSY with that stream.
With none of them the flush reaches its end point in the event: a part-filled buffer closes FLUSH, with the unit BUSY until
that close's status write completes, and over an empty buffer the flush ends in the event, DONE. -/
def Obligations.FlushCountsTheRecordsPresent : Prop :=
  ∀ (s : State) (i : StreamId), s.ready → (s.arg 1).toNat = (if i = .event then 0 else 1) →
    (s.walker i).state = .filling → s.bufferLaw →
    ∃ t, exec (.flush .supervisor) s = .next t ∧ t.command.count = s.command.count + 1 ∧
      (∀ k, k = (s.stream i).fifo.length + (match (s.walker i).inFlight with
                | some (.burst rs) => rs.length
                | _ => 0) →
        (0 < k ∨ (s.walker i).inFlight.isSome = true →
          t.command.running = some { code := 0x07, number := s.command.count + 1, stream := some i } ∧
          (t.walker i).flushCount = some k ∧ (t.walker i).state = .filling) ∧
        (k = 0 → (s.walker i).inFlight = none → 0 < (s.walker i).fillOffset →
          t.command.running = some { code := 0x07, number := s.command.count + 1, stream := some i } ∧
          (t.walker i).state = .closing ∧ (t.walker i).closeReason = some .flush) ∧
        (k = 0 → (s.walker i).inFlight = none → (s.walker i).fillOffset = 0 →
          t.command.running = none ∧ (t.walker i).state = .filling ∧ (t.walker i).flushCount = none ∧
          t.command.result = { code := 0x07, result := 1, fieldIndex := 0, number := s.command.count + 1 })) ∧
      (∀ j, j ≠ i → t.walker j = s.walker j) ∧
      t = { s with
        command := { s.command with count := t.command.count, running := t.command.running, result := t.command.result }
        eventWalker := t.eventWalker, captureWalker := t.captureWalker, report := t.report, notices := t.notices }

/-- R56, R22, R55, R72: CAPTURE_START from STOPPED sets the five trigger settings (the entry only for ON_ENTRY), the 32
counters to 1 and the state to RUNNING or ARMED, and offers one CAPTURE_STATE record; DONE. -/
def Obligations.CaptureStartBeginsASession : Prop :=
  ∀ (s : State) (k : TriggerKind), s.ready → s.capture.state = .stopped →
    (s.arg 1).toNat = (match k with | .immediate => 0 | .onDenial => 1 | .onEntry => 2) →
    (k = .onEntry → (s.arg 2).toNat ≤ 31) → (s.arg 3).toNat ≤ 65535 → (s.arg 4).toNat ≤ 4096 → (s.arg 5).toNat ≤ 1 →
    ∃ t, exec (.captureStart .supervisor) s = .next t ∧
      let new : CaptureState := if k = .immediate then .running else .armed
      t.capture = { s.capture with
        state := new
        trigger := { kind := k, entry := if k = .onEntry then (s.arg 2).toNat else s.capture.trigger.entry
                     quiet := (s.arg 3).toNat, limit := (s.arg 4).toNat, oneShot := decide ((s.arg 5).toNat = 1) } } ∧
      t.policy = { s.policy with decimation := Vector.replicate 32 1 } ∧
      t.eventStream = s.eventStream.afterOffer .event s.time.tick
        (.captureState .stopped new s.capture.groupNumber s.time.tick) ∧
      t.isRaised .captureState = true ∧ t.report.dirty.getLsbD 5 = true ∧
      t.command = { s.command with
        count := s.command.count + 1
        result := { code := 0x08, result := 1, fieldIndex := 0, number := s.command.count + 1 } } ∧
      t = { s with
        capture := t.capture, policy := t.policy, eventStream := t.eventStream, command := t.command, report := t.report
        notices := t.notices, eventWalker := t.eventWalker, freeCount := t.freeCount }

/-- R55, R57, R64, R70, R72: CAPTURE_STOP. NOW leaves STOPPED with no group open, closing an open group with reason STOP, with
the GROUP_ENDs that are due and one CAPTURE_STATE record; AT_GROUP_END with a group open in RUNNING leaves STOPPING with the
group as it stands, and else STOPPED. Both are DONE in the event. -/
def Obligations.CaptureStopEndsTheSession : Prop :=
  ∀ s : State, s.ready → s.groupLaw →
    (s.arg 1 = 0 → s.capture.state ≠ .stopped →
      ∃ t, exec (.captureStopNow .supervisor) s = .next t ∧ t.capture.state = .stopped ∧ t.capture.openGroup = none ∧
        t.capture.quietTimer = none ∧
        t.capture.groupNumber = s.capture.groupNumber + (if s.capture.openGroup.isSome then 1 else 0) ∧
        t.capture.pendingList = s.capture.pendingList ∧ t.capture.trigger = s.capture.trigger ∧
        (s.capture.openGroup = none → t.captureStream = s.captureStream ∧ t.capture.owed = s.capture.owed) ∧
        (∀ g, s.capture.openGroup = some g →
          let owed := s.capture.owed ++ [{ number := g.number, reason := .stop, timestamp := s.time.tick
                                           produced := g.produced, lost := g.lost, skips := g.skips }]
          t.captureStream = s.captureStream.afterGroupEnds s.time.tick s.capture.pendingList owed ∧
          t.capture.owed = stillOwed s.capture.pendingList owed) ∧
        t.eventStream = s.eventStream.afterOffer .event s.time.tick
          (.captureState s.capture.state .stopped t.capture.groupNumber s.time.tick) ∧
        t.isRaised .captureState = true ∧
        t.command = { s.command with
          count := s.command.count + 1
          result := { code := 0x09, result := 1, fieldIndex := 0, number := s.command.count + 1 } } ∧
        t = { s with
          capture := t.capture, eventStream := t.eventStream, captureStream := t.captureStream, command := t.command
          report := t.report, notices := t.notices, eventWalker := t.eventWalker, captureWalker := t.captureWalker
          freeCount := t.freeCount }) ∧
    (s.arg 1 = 1 → s.capture.state = .running ∨ s.capture.state = .armed →
      ∃ t, exec (.captureStopAtGroupEnd .supervisor) s = .next t ∧
        let new : CaptureState := if s.capture.openGroup.isSome then .stopping else .stopped
        t.capture = { s.capture with state := new } ∧ t.isRaised .captureState = true ∧
        t = { s with
          capture := t.capture, eventStream := t.eventStream, command := t.command, report := t.report
          notices := t.notices, eventWalker := t.eventWalker, freeCount := t.freeCount } ∧
        t.eventStream = s.eventStream.afterOffer .event s.time.tick
          (.captureState s.capture.state new s.capture.groupNumber s.time.tick) ∧
        t.command = { s.command with
          count := s.command.count + 1
          result := { code := 0x09, result := 1, fieldIndex := 0, number := s.command.count + 1 } })

/-- R85 with R80, R81, R83 and R91: MARK offers one record to the named stream, which takes it, takes it behind a GAP, or counts
it lost; a record without room raises the stream's loss notice, one with room does not, and a change of the lost count
dirties the stream's section; the command is DONE in each case. -/
def Obligations.MarkIsOfferedToTheNamedStream : Prop :=
  ∀ (s : State) (i : StreamId), s.ready → (s.arg 1).toNat = (if i = .event then 0 else 1) →
    ∃ t, exec (.mark .supervisor) s = .next t ∧
      let mark : Record :=
        if i = .event then .eventMark (s.arg 2) s.time.tick else .captureMark (s.arg 2) (s.time.tick.setWidth 16)
      t.stream i = (s.stream i).afterOffer i s.time.tick mark ∧
      t.isRaised i.lossNotice = (s.isRaised i.lossNotice || (s.stream i).hasNoRoom i mark) ∧
      ((t.stream i).lost ≠ (s.stream i).lost → t.isDirty i.reportSection = true) ∧
      (i = .event → t.captureStream = s.captureStream) ∧ (i = .capture → t.eventStream = s.eventStream) ∧
      t = { s with
        eventStream := t.eventStream, captureStream := t.captureStream, eventWalker := t.eventWalker
        captureWalker := t.captureWalker, command := t.command, report := t.report, notices := t.notices
        freeCount := t.freeCount } ∧
      t.command = { s.command with
        count := s.command.count + 1
        result := { code := 0x0A, result := 1, fieldIndex := 0, number := s.command.count + 1 } }

/-- R141, R165: ACK clears from the raw set every notice its mask names, after its own COMMAND_DONE was raised; the published
set, the enable mask and the line stay. -/
def Obligations.AckClearsTheNamedNotices : Prop :=
  ∀ s : State, s.ready → (s.arg 1).toNat < 2 ^ 13 →
    ∃ t, exec (.ack .supervisor) s = .next t ∧
      t.notices = { s.notices with raw := (s.notices.raw ||| 0x400) &&& ~~~ (s.arg 1).setWidth 13 } ∧
      t.report.dirty ||| 0x02 = s.report.dirty ||| 0x03 ∧
      (t.notices.raw ≠ s.notices.raw → t.report.dirty.getLsbD 1 = true) ∧
      t = { s with
        command := { s.command with
          count := s.command.count + 1
          result := { code := 0x0B, result := 1, fieldIndex := 0, number := s.command.count + 1 } }
        notices := t.notices
        report := { s.report with dirty := t.report.dirty } }

/-- R142, R164, R166: NOTICE_ENABLE replaces the mask whole, sets the line against the published set at once, and dirties the
notices section if the mask changed; a bit that names no notice is refused BADARG. R143, R167: FORCE_NOTICE raises FORCED
(bit 12) beside COMMAND_DONE, and dirties the notices section if either was new. Both are DONE otherwise. -/
def Obligations.NoticeEnableAndForceNoticeActAtOnce : Prop :=
  ∀ s : State, s.ready →
    ((s.arg 1).toNat < 2 ^ 13 →
      exec (.noticeEnable .supervisor) s = .next (State.completed { s with
        notices := { s.notices with
          enable := (s.arg 1).setWidth 13, line := decide (s.notices.published &&& (s.arg 1).setWidth 13 ≠ 0) }
        report := { s.report with
          dirty := if s.notices.enable = (s.arg 1).setWidth 13 then s.report.dirty else s.report.dirty ||| 0x02 } }
        0x0C 1)) ∧
    (2 ^ 13 ≤ (s.arg 1).toNat → exec (.noticeEnable .supervisor) s = .next (s.completed 0x0C 5)) ∧
    exec (.forceNotice .supervisor) s = .next (State.completed { s with
      notices := { s.notices with raw := s.notices.raw ||| 0x1000 }
      report := { s.report with
        dirty := if s.notices.raw.getLsbD 12 then s.report.dirty else s.report.dirty ||| 0x02 } } 0x0D 1)

/-- R46, R53: CLEAR_DENIALS empties the latch and the sticky set and clears the flag, leaves the counts, dirties the denial
section if one of the three changed, and is DONE. -/
def Obligations.ClearDenialsEmptiesTheAccount : Prop :=
  ∀ s : State, s.ready →
    exec (.clearDenials .supervisor) s = .next (State.completed { s with
      denial := { latch := none, more := false, sticky := 0, defaultCount := s.denial.defaultCount }
      report := { s.report with
        dirty := if s.denial.latch = none ∧ s.denial.more = false ∧ s.denial.sticky = 0 then s.report.dirty
                 else s.report.dirty ||| 0x04 } } 0x0E 1)

/-- R48: STATS takes the snapshot of the 33 counts with the saturation flag, clears them if argument 2 is 1, and makes the unit
BUSY. -/
def Obligations.StatsTakesTheSnapshot : Prop :=
  ∀ s : State, s.ready → (s.arg 1).toNat % 64 = 0 → (s.arg 1).toNat ≤ 0xFFFFFF80 → (s.arg 2).toNat ≤ 1 →
    ∃ t g, exec (.stats .supervisor) s = .next t ∧
      g = { area := s.arg 1, slots := s.policy.slotCounts, default := s.denial.defaultCount, saturated := g.saturated,
            granted := 0, answered := 0, error := false } ∧
      (g.saturated = true ↔ 65535 ∈ s.policy.slotCounts.toList ∨ s.denial.defaultCount = 65535) ∧
      t = { s with
        command := { s.command with
          count := s.command.count + 1
          running := some { code := 0x0F, number := s.command.count + 1, stream := none }
          stats := some g }
        policy := if s.arg 2 = 1 then { s.policy with slotCounts := Vector.replicate 32 0 } else s.policy
        denial := if s.arg 2 = 1 then { s.denial with defaultCount := 0 } else s.denial }

/-- R89, R90: SET_TIMING sets its four values and returns the prescale count to 0, with the tick count as it stands, and is
DONE; a linger close that the new settings bring comes in the same event. -/
def Obligations.SetTimingSetsTheFourValues : Prop :=
  ∀ s : State, s.ready → 1 ≤ (s.arg 1).toNat → (s.arg 1).toNat ≤ 65536 → (s.arg 2).toNat ≤ 65535 →
    (s.arg 3).toNat ≤ 65535 → 64 ≤ (s.arg 4).toNat → (s.arg 4).toNat ≤ 1008 → (s.arg 4).toNat % 16 = 0 →
    ∃ t, exec (.setTiming .supervisor) s = .next t ∧
      t.time = { tick := s.time.tick, divider := (s.arg 1).toNat, prescale := 0, eventLinger := (s.arg 2).toNat
                 captureLinger := (s.arg 3).toNat, captureUrgent := (s.arg 4).toNat } ∧
      t.command = { s.command with
        count := s.command.count + 1
        result := { code := 0x10, result := 1, fieldIndex := 0, number := s.command.count + 1 } } ∧
      (∀ i : StreamId, (s.walker i).state = .filling → (s.walker i).inFlight = none → 0 < (s.walker i).fillOffset →
        (s.arg (if i = .event then 2 else 3)) ≠ 0 →
        (s.arg (if i = .event then 2 else 3)).toNat ≤ (s.walker i).lingerAge →
        (t.walker i).state = .closing ∧ (t.walker i).closeReason = some .linger) ∧
      (t.isDirty .time = s.isDirty .time) ∧
      t = { s with
        time := t.time, command := t.command, report := t.report, notices := t.notices, eventWalker := t.eventWalker
        captureWalker := t.captureWalker, freeCount := t.freeCount }

/-- R144 with R75, R92, R116 and R126: RECORD_RESET empties both streams without counting, stops capture and voids its pending
entries, makes both walkers IDLE, and voids the walkers' issue-list entries; the policy, the denials, the notices but
COMMAND_DONE, the time base and the queue stay. -/
def Obligations.RecordResetRestartsTheRecordingSide : Prop :=
  ∀ s : State, s.ready →
    ∃ t, exec (.recordReset .supervisor) s = .next t ∧
      (∀ i, t.stream i = { fifo := [], lost := 0, saturated := false }) ∧
      (∀ i, t.walker i = { state := .idle, current := 0, copy := none, fillOffset := 0, gapPresent := false, lingerAge := 0,
                           closeReason := none, inFlight := none, flushCount := none, abortError := false }) ∧
      t.capture = { state := .stopped, trigger := s.capture.trigger, groupNumber := 0, openGroup := none, quietTimer := none
                    owed := [], pendingList := s.capture.pendingList.map fun e => { e with voided := true } } ∧
      t.arbiter = { s.arbiter with
        issued := s.arbiter.issued.map fun e =>
          if e.requester = .event ∨ e.requester = .capture then { e with voided := true } else e } ∧
      t.notices = { s.notices with raw := s.notices.raw ||| 0x400 } ∧
      t.command = { s.command with
        count := s.command.count + 1
        result := { code := 0x11, result := 1, fieldIndex := 0, number := s.command.count + 1 } } ∧
      t = { s with
        eventStream := t.eventStream, captureStream := t.captureStream, eventWalker := t.eventWalker
        captureWalker := t.captureWalker, capture := t.capture, arbiter := t.arbiter, notices := t.notices
        command := t.command, report := { s.report with dirty := t.report.dirty } }

/-! ## Layouts -/

/-- R104, R169, R171, R173 to R177: the codes, the status word, the result word, every record and every report section are
those of chapter 11. Each word carries its fields at the bits given, and 0 elsewhere: it is written as the sum of its fields,
each modulo its width, at their weights. -/
def Obligations.LayoutsPutFieldsAtTheirBits : Prop :=
  -- codes (R169)
  ([AccessKind.fetch, .read, .write].map (·.code.toNat) = [0, 1, 2] ∧
    [Privilege.supervisor, .user].map (·.code.toNat) = [0, 1] ∧ [RespSetting.error, .quiet].map (·.code.toNat) = [0, 1] ∧
    [DenialKind.format, .aliased, .segment, .straddle, .buffer, .permission].map (·.code.toNat) = [1, 2, 3, 4, 5, 6] ∧
    [CaptureState.stopped, .armed, .running, .stopping].map (·.code.toNat) = [0, 1, 2, 3] ∧
    [WalkerState.idle, .fetching, .waiting, .filling, .closing, .aborting, .ended, .faulted].map (·.code.toNat) =
      [0, 1, 2, 3, 4, 5, 6, 7] ∧
    [GroupReason.quiet, .limit, .stop].map (·.code.toNat) = [1, 2, 3] ∧
    [CloseReason.full, .linger, .flush, .abort].map (·.code.toNat) = [0, 1, 2, 3] ∧
    [TriggerKind.immediate, .onDenial, .onEntry].map (·.code.toNat) = [0, 1, 2] ∧
    [FoldMode.fold, .strict].map (·.code.toNat) = [0, 1] ∧ [StreamId.event, .capture].map (·.code.toNat) = [0, 1] ∧
    Staged.empty.code.toNat = 0 ∧ Staged.loading.code.toNat = 1 ∧ (∀ p, (Staged.valid p).code.toNat = 2) ∧
    [FaultCause.fetchError, .wrongStream, .badAddress, .badLength, .badLink, .badOwner, .burstError, .statusError].map
      (·.code.toNat) = [1, 2, 3, 4, 5, 6, 7, 8]) ∧
  -- the status word (R104, R173) and the result word (R177)
  (∀ (reason : CloseReason) (gap : Bool) (n : Nat), n < 2 ^ 21 →
    let w := statusWord reason gap n
    w.toNat = 2 + 4 * reason.code.toNat + 16 * gap.toNat + 256 * n) ∧
  (∀ r : ResultWord,
    r.encode.toNat = r.code.toNat + 2 ^ 8 * r.result.toNat + 2 ^ 12 * r.fieldIndex.toNat + 2 ^ 24 * r.number.toNat) ∧
  (∀ r : Record, r.encode.length = r.words) ∧
  -- event records (R174, R175)
  (∀ (i : DenialInfo) (resp : RespSetting), (Record.denial i resp).encode.map (·.toNat) =
    [3 + 4 * 0x01 + 2 ^ 8 * i.kind.code.toNat + 2 ^ 11 * i.access.code.toNat + 2 ^ 13 * i.privilege.code.toNat +
        2 ^ 14 * i.master.toNat + 2 ^ 17 * ((i.beats - 1) % 16) + 2 ^ 21 * (i.entry.getD 0 % 32) +
        2 ^ 26 * i.entry.isNone.toNat + 2 ^ 27 * resp.code.toNat,
      i.address.toNat, i.timestamp.toNat, 0]) ∧
  (∀ (a : Word) (k : AccessKind) (p : Privilege) (m : BitVec 3) (ts : Word),
    (Record.memfault a k p m ts).encode.map (·.toNat) =
      [3 + 4 * 0x02 + 2 ^ 8 * k.code.toNat + 2 ^ 10 * p.code.toNat + 2 ^ 11 * m.toNat, a.toNat, ts.toNat, 0]) ∧
  (∀ (i : StreamId) (c : FaultCause) (d ts : Word), (Record.chainFault i c d ts).encode.map (·.toNat) =
    [3 + 4 * 0x03 + 2 ^ 8 * i.code.toNat + 2 ^ 9 * c.code.toNat, d.toNat, ts.toNat, 0]) ∧
  (∀ (n : Nat) (c : BitVec 8) (ts : Word), (Record.commit n c ts).encode.map (·.toNat) =
    [3 + 4 * 0x04 + 2 ^ 8 * (n % 64) + 2 ^ 14 * c.toNat, 0, ts.toNat, 0]) ∧
  (∀ (o n : CaptureState) (g : BitVec 8) (ts : Word), (Record.captureState o n g ts).encode.map (·.toNat) =
    [3 + 4 * 0x05 + 2 ^ 8 * o.code.toNat + 2 ^ 10 * n.code.toNat + 2 ^ 12 * g.toNat, 0, ts.toNat, 0]) ∧
  (∀ (v ts : Word), (Record.eventMark v ts).encode.map (·.toNat) = [3 + 4 * 0x06, v.toNat, ts.toNat, 0]) ∧
  (∀ (n : Nat) (sat : Bool) (ts : Word), (Record.eventGap n sat ts).encode.map (·.toNat) =
    [3 + 4 * 0x07 + 2 ^ 8 * (n % 2 ^ 16) + 2 ^ 24 * sat.toNat, 0, ts.toNat, 0]) ∧
  -- capture records (R174, R176)
  (∀ (a : Word) (k : AccessKind) (p : Privilege) (m : BitVec 3) (n : Nat) (g : BitVec 8) (st : BitVec 16),
    (Record.short a k p m n g st).encode.map (·.toNat) =
      [4 * (a.toNat / 4) + k.code.toNat,
        p.code.toNat + 2 * m.toNat + 2 ^ 4 * ((n - 1) % 16) + 2 ^ 8 * g.toNat + 2 ^ 16 * st.toNat]) ∧
  (∀ (a : Word) (k : AccessKind) (p : Privilege) (m : BitVec 3) (n : Nat) (g : BitVec 8) (entry : Nat) (ts d : Word)
      (err : Bool), (Record.full a k p m n g entry ts d err).encode.map (·.toNat) =
    [3 + 4 * 0x08 + 2 ^ 8 * k.code.toNat + 2 ^ 10 * p.code.toNat + 2 ^ 11 * m.toNat + 2 ^ 14 * ((n - 1) % 16) +
        2 ^ 18 * g.toNat + 2 ^ 26 * (entry % 32) + 2 ^ 31 * err.toNat,
      a.toNat, ts.toNat, d.toNat]) ∧
  (∀ g : ClosedGroup, (Record.groupEnd g).encode.map (·.toNat) =
    [3 + 4 * 0x09 + 2 ^ 8 * g.number.toNat + 2 ^ 16 * g.reason.code.toNat + 2 ^ 18 * min 16383 g.skips,
      g.produced % 2 ^ 32, g.lost % 2 ^ 32, g.timestamp.toNat]) ∧
  (∀ (v : Word) (st : BitVec 16), (Record.captureMark v st).encode.map (·.toNat) =
    [3 + 4 * 0x06 + 2 ^ 16 * st.toNat, v.toNat]) ∧
  (∀ (n : Nat) (sat : Bool) (ts : Word), (Record.captureGap n sat ts).encode.map (·.toNat) =
    [3 + 4 * 0x07 + 2 ^ 8 * (n % 2 ^ 16) + 2 ^ 24 * sat.toNat, ts.toNat]) ∧
  -- report sections (R177)
  (∀ s : State, s.sectionWords .result = [s.command.result.encode] ∧
    (s.sectionWords .notices).map (·.toNat) = [s.notices.raw.toNat, s.notices.enable.toNat, s.report.fault.toNat] ∧
    (s.sectionWords .denial).map (·.toNat) =
      (match s.denial.latch with
        | some i =>
          [1 + 2 * i.kind.code.toNat + 2 ^ 4 * i.access.code.toNat + 2 ^ 6 * i.privilege.code.toNat + 2 ^ 7 * i.master.toNat +
              2 ^ 10 * ((i.beats - 1) % 16) + 2 ^ 14 * (i.entry.getD 0 % 32) + 2 ^ 19 * i.entry.isNone.toNat +
              2 ^ 20 * s.denial.more.toNat + 2 ^ 21 * s.denial.sticky.toNat,
            i.address.toNat, i.timestamp.toNat, 0]
        | none => [2 ^ 20 * s.denial.more.toNat + 2 ^ 21 * s.denial.sticky.toNat, 0, 0, 0]) ∧
    (∀ i : StreamId,
      let occupancy := if i = .event then s.eventStream.fifo.length else fifoWords s.captureStream.fifo
      let urgent := if (if i = .event then 24 else s.time.captureUrgent) ≤ occupancy then 1 else 0
      (s.sectionWords i.reportSection).map (·.toNat) =
        [(s.walker i).state.code.toNat + 2 ^ 16 * (occupancy % 2 ^ 11) + 2 ^ 31 * urgent, (s.walker i).current.toNat,
          (s.walker i).fillOffset % 2 ^ 32, (s.stream i).lost % 2 ^ 16 + 2 ^ 16 * (s.stream i).saturated.toNat]) ∧
    (s.sectionWords .capture).map (·.toNat) =
      [s.capture.state.code.toNat + 2 ^ 8 * s.capture.groupNumber.toNat + 2 ^ 16 * s.capture.trigger.kind.code.toNat +
          2 ^ 18 * (s.capture.trigger.entry % 32) + 2 ^ 23 * s.capture.trigger.oneShot.toNat,
        (match s.capture.openGroup with
          | some g => g.produced
          | none => 0) % 2 ^ 32,
        s.capture.trigger.quiet % 2 ^ 16, s.capture.trigger.limit % 2 ^ 13] ∧
    (s.sectionWords .policy).map (·.toNat) =
      [s.policy.active.entries.length % 64 + 2 ^ 8 * s.policy.staged.code.toNat + 2 ^ 16 * s.policy.commitCount.toNat,
        s.policy.active.width % 64 + 2 ^ 8 * s.policy.active.fold.code.toNat] ∧
    s.sectionWords .time = [s.time.tick])

/-! ## What every step keeps -/

/-- R27, R29, R30: every step keeps the transaction queue at 4 or fewer, each state fitting its outcome, only the head
delivering, and the PASS transactions in the order HELD, AT_MEMORY, UNSENT from the head on. -/
def Obligations.EveryStepKeepsTheQueueLaw : Prop :=
  ∀ s t : State, s.queueLaw → step s = .next t → t.queueLaw

/-- R65, R66: every step keeps one pending entry for each captured transaction that memory has not completed. -/
def Obligations.EveryStepKeepsThePendingListLinked : Prop :=
  ∀ s t : State, s.pendingLaw → step s = .next t → t.pendingLaw

/-- R77, R80, R83: every step keeps the FIFOs within their capacities and the lost counts within theirs. -/
def Obligations.EveryStepKeepsTheFifosWithinCapacity : Prop :=
  ∀ s t : State, s.streamLaw → step s = .next t → t.streamLaw

/-- R38, R118, R120, R121, R126: every step keeps the issue list, the drain count and the run count within 8, and never has
issued transactions beside a drain. -/
def Obligations.EveryStepKeepsTheArbiterLaw : Prop :=
  ∀ s t : State, s.arbiterLaw → step s = .next t → t.arbiterLaw

/-- R9: every step keeps the active table, a VALID staged table and what a load has read within the ranges of R149 and R150,
and the counters of R22 and R23 in theirs. -/
def Obligations.EveryStepKeepsTheTablesValid : Prop :=
  ∀ s t : State, s.tableLaw → s.counterLaw → step s = .next t → t.tableLaw ∧ t.counterLaw

/-- R164: every step keeps the notice line asserted exactly when the published set and the enable mask share a notice. -/
def Obligations.EveryStepKeepsTheNoticeLine : Prop :=
  ∀ s t : State, s.lineLaw → step s = .next t → t.lineLaw

/-- R55, R62 to R64: every step keeps the capture state, the open group, its number and the quiet timer together. -/
def Obligations.EveryStepKeepsTheGroupLaw : Prop :=
  ∀ s t : State, s.groupLaw → step s = .next t → t.groupLaw

/-- R93, R95, R97, R100, R104: every step keeps both walkers inside the buffer of the descriptor fetched, with a transaction in
flight only of the kind their state issues or an abort waits for, and closes no empty buffer. -/
def Obligations.EveryStepKeepsWalkersInTheirBuffers : Prop :=
  ∀ s t : State, s.bufferLaw → step s = .next t → t.bufferLaw

/-- R119, R130, R135, R145, R148: every step keeps the loader at work exactly while the staged table is LOADING under a running
LOAD_POLICY, and the statistics engine only under a running STATS. -/
def Obligations.EveryStepKeepsOneLastingOwner : Prop :=
  ∀ s t : State, s.ownerLaw → step s = .next t → t.ownerLaw

/-- R101, R103, R108: every step keeps it that no close or flush condition of a walker is left standing. -/
def Obligations.EveryStepLeavesNoCloseConditionStanding : Prop :=
  ∀ s t : State, s.settled = true → step s = .next t → t.settled = true
end

