-- ==== Sys2Proof/Laws/State.lean ====
section
/-! SUPPORT. What each plain update of `State` does to each field, true by computation, so that no proof unfolds a
record update. -/

namespace Sys2Proof.Machine

/-! ### markDirty -/

@[simp] theorem State.markDirty_anchorSel (s : State) (c : Section) : (s.markDirty c).anchorSel = s.anchorSel := rfl
@[simp] theorem State.markDirty_resetAsserted (s : State) (c : Section) :
    (s.markDirty c).resetAsserted = s.resetAsserted := rfl
@[simp] theorem State.markDirty_queue (s : State) (c : Section) : (s.markDirty c).queue = s.queue := rfl
@[simp] theorem State.markDirty_policy (s : State) (c : Section) : (s.markDirty c).policy = s.policy := rfl
@[simp] theorem State.markDirty_denial (s : State) (c : Section) : (s.markDirty c).denial = s.denial := rfl
@[simp] theorem State.markDirty_capture (s : State) (c : Section) : (s.markDirty c).capture = s.capture := rfl
@[simp] theorem State.markDirty_eventStream (s : State) (c : Section) :
    (s.markDirty c).eventStream = s.eventStream := rfl
@[simp] theorem State.markDirty_captureStream (s : State) (c : Section) :
    (s.markDirty c).captureStream = s.captureStream := rfl
@[simp] theorem State.markDirty_eventWalker (s : State) (c : Section) :
    (s.markDirty c).eventWalker = s.eventWalker := rfl
@[simp] theorem State.markDirty_captureWalker (s : State) (c : Section) :
    (s.markDirty c).captureWalker = s.captureWalker := rfl
@[simp] theorem State.markDirty_arbiter (s : State) (c : Section) : (s.markDirty c).arbiter = s.arbiter := rfl
@[simp] theorem State.markDirty_command (s : State) (c : Section) : (s.markDirty c).command = s.command := rfl
@[simp] theorem State.markDirty_report (s : State) (c : Section) :
    (s.markDirty c).report = { s.report with dirty := s.report.dirty ||| c.mask } := rfl
@[simp] theorem State.markDirty_notices (s : State) (c : Section) : (s.markDirty c).notices = s.notices := rfl
@[simp] theorem State.markDirty_time (s : State) (c : Section) : (s.markDirty c).time = s.time := rfl
@[simp] theorem State.markDirty_memoryPort (s : State) (c : Section) :
    (s.markDirty c).memoryPort = s.memoryPort := rfl
@[simp] theorem State.markDirty_processorPort (s : State) (c : Section) :
    (s.markDirty c).processorPort = s.processorPort := rfl
@[simp] theorem State.markDirty_freeCount (s : State) (c : Section) : (s.markDirty c).freeCount = s.freeCount := rfl
@[simp] theorem State.markDirty_pending (s : State) (c : Section) : (s.markDirty c).pending = s.pending := rfl

/-! ### drawn -/

@[simp] theorem State.drawn_anchorSel (s : State) (k : Nat) : (s.drawn k).anchorSel = s.anchorSel := rfl
@[simp] theorem State.drawn_resetAsserted (s : State) (k : Nat) : (s.drawn k).resetAsserted = s.resetAsserted := rfl
@[simp] theorem State.drawn_queue (s : State) (k : Nat) : (s.drawn k).queue = s.queue := rfl
@[simp] theorem State.drawn_policy (s : State) (k : Nat) : (s.drawn k).policy = s.policy := rfl
@[simp] theorem State.drawn_denial (s : State) (k : Nat) : (s.drawn k).denial = s.denial := rfl
@[simp] theorem State.drawn_capture (s : State) (k : Nat) : (s.drawn k).capture = s.capture := rfl
@[simp] theorem State.drawn_eventStream (s : State) (k : Nat) : (s.drawn k).eventStream = s.eventStream := rfl
@[simp] theorem State.drawn_captureStream (s : State) (k : Nat) : (s.drawn k).captureStream = s.captureStream := rfl
@[simp] theorem State.drawn_eventWalker (s : State) (k : Nat) : (s.drawn k).eventWalker = s.eventWalker := rfl
@[simp] theorem State.drawn_captureWalker (s : State) (k : Nat) : (s.drawn k).captureWalker = s.captureWalker := rfl
@[simp] theorem State.drawn_arbiter (s : State) (k : Nat) : (s.drawn k).arbiter = s.arbiter := rfl
@[simp] theorem State.drawn_command (s : State) (k : Nat) : (s.drawn k).command = s.command := rfl
@[simp] theorem State.drawn_report (s : State) (k : Nat) : (s.drawn k).report = s.report := rfl
@[simp] theorem State.drawn_notices (s : State) (k : Nat) : (s.drawn k).notices = s.notices := rfl
@[simp] theorem State.drawn_time (s : State) (k : Nat) : (s.drawn k).time = s.time := rfl
@[simp] theorem State.drawn_memoryPort (s : State) (k : Nat) : (s.drawn k).memoryPort = s.memoryPort := rfl
@[simp] theorem State.drawn_processorPort (s : State) (k : Nat) : (s.drawn k).processorPort = s.processorPort := rfl
@[simp] theorem State.drawn_freeCount (s : State) (k : Nat) : (s.drawn k).freeCount = s.freeCount + k := rfl
@[simp] theorem State.drawn_pending (s : State) (k : Nat) : (s.drawn k).pending = s.pending := rfl

/-! ### issue -/

@[simp] theorem State.issue_anchorSel (s : State) (r : Requester) (q : Request) :
    (s.issue r q).anchorSel = s.anchorSel := rfl
@[simp] theorem State.issue_resetAsserted (s : State) (r : Requester) (q : Request) :
    (s.issue r q).resetAsserted = s.resetAsserted := rfl
@[simp] theorem State.issue_queue (s : State) (r : Requester) (q : Request) : (s.issue r q).queue = s.queue := rfl
@[simp] theorem State.issue_policy (s : State) (r : Requester) (q : Request) : (s.issue r q).policy = s.policy := rfl
@[simp] theorem State.issue_denial (s : State) (r : Requester) (q : Request) : (s.issue r q).denial = s.denial := rfl
@[simp] theorem State.issue_capture (s : State) (r : Requester) (q : Request) :
    (s.issue r q).capture = s.capture := rfl
@[simp] theorem State.issue_eventStream (s : State) (r : Requester) (q : Request) :
    (s.issue r q).eventStream = s.eventStream := rfl
@[simp] theorem State.issue_captureStream (s : State) (r : Requester) (q : Request) :
    (s.issue r q).captureStream = s.captureStream := rfl
@[simp] theorem State.issue_eventWalker (s : State) (r : Requester) (q : Request) :
    (s.issue r q).eventWalker = s.eventWalker := rfl
@[simp] theorem State.issue_captureWalker (s : State) (r : Requester) (q : Request) :
    (s.issue r q).captureWalker = s.captureWalker := rfl
@[simp] theorem State.issue_arbiter (s : State) (r : Requester) (q : Request) :
    (s.issue r q).arbiter = { s.arbiter with issued := s.arbiter.issued ++ [{ requester := r, isWrite := decide (q.kind = .write), beats := q.beats, voided := false }] } := rfl
@[simp] theorem State.issue_command (s : State) (r : Requester) (q : Request) :
    (s.issue r q).command = s.command := rfl
@[simp] theorem State.issue_report (s : State) (r : Requester) (q : Request) : (s.issue r q).report = s.report := rfl
@[simp] theorem State.issue_notices (s : State) (r : Requester) (q : Request) :
    (s.issue r q).notices = s.notices := rfl
@[simp] theorem State.issue_time (s : State) (r : Requester) (q : Request) : (s.issue r q).time = s.time := rfl
@[simp] theorem State.issue_memoryPort (s : State) (r : Requester) (q : Request) :
    (s.issue r q).memoryPort = some q := rfl
@[simp] theorem State.issue_processorPort (s : State) (r : Requester) (q : Request) :
    (s.issue r q).processorPort = s.processorPort := rfl
@[simp] theorem State.issue_freeCount (s : State) (r : Requester) (q : Request) :
    (s.issue r q).freeCount = s.freeCount := rfl
@[simp] theorem State.issue_pending (s : State) (r : Requester) (q : Request) :
    (s.issue r q).pending = s.pending := rfl

/-! ### popIssued -/

@[simp] theorem State.popIssued_anchorSel (s : State) : (s.popIssued).anchorSel = s.anchorSel := rfl
@[simp] theorem State.popIssued_resetAsserted (s : State) : (s.popIssued).resetAsserted = s.resetAsserted := rfl
@[simp] theorem State.popIssued_queue (s : State) : (s.popIssued).queue = s.queue := rfl
@[simp] theorem State.popIssued_policy (s : State) : (s.popIssued).policy = s.policy := rfl
@[simp] theorem State.popIssued_denial (s : State) : (s.popIssued).denial = s.denial := rfl
@[simp] theorem State.popIssued_capture (s : State) : (s.popIssued).capture = s.capture := rfl
@[simp] theorem State.popIssued_eventStream (s : State) : (s.popIssued).eventStream = s.eventStream := rfl
@[simp] theorem State.popIssued_captureStream (s : State) : (s.popIssued).captureStream = s.captureStream := rfl
@[simp] theorem State.popIssued_eventWalker (s : State) : (s.popIssued).eventWalker = s.eventWalker := rfl
@[simp] theorem State.popIssued_captureWalker (s : State) : (s.popIssued).captureWalker = s.captureWalker := rfl
@[simp] theorem State.popIssued_arbiter (s : State) :
    (s.popIssued).arbiter = { s.arbiter with issued := s.arbiter.issued.tail } := rfl
@[simp] theorem State.popIssued_command (s : State) : (s.popIssued).command = s.command := rfl
@[simp] theorem State.popIssued_report (s : State) : (s.popIssued).report = s.report := rfl
@[simp] theorem State.popIssued_notices (s : State) : (s.popIssued).notices = s.notices := rfl
@[simp] theorem State.popIssued_time (s : State) : (s.popIssued).time = s.time := rfl
@[simp] theorem State.popIssued_memoryPort (s : State) : (s.popIssued).memoryPort = s.memoryPort := rfl
@[simp] theorem State.popIssued_processorPort (s : State) : (s.popIssued).processorPort = s.processorPort := rfl
@[simp] theorem State.popIssued_freeCount (s : State) : (s.popIssued).freeCount = s.freeCount := rfl
@[simp] theorem State.popIssued_pending (s : State) : (s.popIssued).pending = s.pending := rfl

/-! ### setCapture -/

@[simp] theorem State.setCapture_anchorSel (s : State) (c : CaptureUnit) :
    (s.setCapture c).anchorSel = s.anchorSel := rfl
@[simp] theorem State.setCapture_resetAsserted (s : State) (c : CaptureUnit) :
    (s.setCapture c).resetAsserted = s.resetAsserted := rfl
@[simp] theorem State.setCapture_queue (s : State) (c : CaptureUnit) : (s.setCapture c).queue = s.queue := rfl
@[simp] theorem State.setCapture_policy (s : State) (c : CaptureUnit) : (s.setCapture c).policy = s.policy := rfl
@[simp] theorem State.setCapture_denial (s : State) (c : CaptureUnit) : (s.setCapture c).denial = s.denial := rfl
@[simp] theorem State.setCapture_capture (s : State) (c : CaptureUnit) : (s.setCapture c).capture = c := rfl
@[simp] theorem State.setCapture_eventStream (s : State) (c : CaptureUnit) :
    (s.setCapture c).eventStream = s.eventStream := rfl
@[simp] theorem State.setCapture_captureStream (s : State) (c : CaptureUnit) :
    (s.setCapture c).captureStream = s.captureStream := rfl
@[simp] theorem State.setCapture_eventWalker (s : State) (c : CaptureUnit) :
    (s.setCapture c).eventWalker = s.eventWalker := rfl
@[simp] theorem State.setCapture_captureWalker (s : State) (c : CaptureUnit) :
    (s.setCapture c).captureWalker = s.captureWalker := rfl
@[simp] theorem State.setCapture_arbiter (s : State) (c : CaptureUnit) : (s.setCapture c).arbiter = s.arbiter := rfl
@[simp] theorem State.setCapture_command (s : State) (c : CaptureUnit) : (s.setCapture c).command = s.command := rfl
@[simp] theorem State.setCapture_report (s : State) (c : CaptureUnit) : (s.setCapture c).report = s.report := rfl
@[simp] theorem State.setCapture_notices (s : State) (c : CaptureUnit) : (s.setCapture c).notices = s.notices := rfl
@[simp] theorem State.setCapture_time (s : State) (c : CaptureUnit) : (s.setCapture c).time = s.time := rfl
@[simp] theorem State.setCapture_memoryPort (s : State) (c : CaptureUnit) :
    (s.setCapture c).memoryPort = s.memoryPort := rfl
@[simp] theorem State.setCapture_processorPort (s : State) (c : CaptureUnit) :
    (s.setCapture c).processorPort = s.processorPort := rfl
@[simp] theorem State.setCapture_freeCount (s : State) (c : CaptureUnit) :
    (s.setCapture c).freeCount = s.freeCount := rfl
@[simp] theorem State.setCapture_pending (s : State) (c : CaptureUnit) : (s.setCapture c).pending = s.pending := rfl

/-! ### setCounter -/

@[simp] theorem State.setCounter_anchorSel (s : State) (k n : Nat) : (s.setCounter k n).anchorSel = s.anchorSel := rfl
@[simp] theorem State.setCounter_resetAsserted (s : State) (k n : Nat) :
    (s.setCounter k n).resetAsserted = s.resetAsserted := rfl
@[simp] theorem State.setCounter_queue (s : State) (k n : Nat) : (s.setCounter k n).queue = s.queue := rfl
@[simp] theorem State.setCounter_policy (s : State) (k n : Nat) :
    (s.setCounter k n).policy = { s.policy with decimation := s.policy.decimation.setIfInBounds k n } := rfl
@[simp] theorem State.setCounter_denial (s : State) (k n : Nat) : (s.setCounter k n).denial = s.denial := rfl
@[simp] theorem State.setCounter_capture (s : State) (k n : Nat) : (s.setCounter k n).capture = s.capture := rfl
@[simp] theorem State.setCounter_eventStream (s : State) (k n : Nat) :
    (s.setCounter k n).eventStream = s.eventStream := rfl
@[simp] theorem State.setCounter_captureStream (s : State) (k n : Nat) :
    (s.setCounter k n).captureStream = s.captureStream := rfl
@[simp] theorem State.setCounter_eventWalker (s : State) (k n : Nat) :
    (s.setCounter k n).eventWalker = s.eventWalker := rfl
@[simp] theorem State.setCounter_captureWalker (s : State) (k n : Nat) :
    (s.setCounter k n).captureWalker = s.captureWalker := rfl
@[simp] theorem State.setCounter_arbiter (s : State) (k n : Nat) : (s.setCounter k n).arbiter = s.arbiter := rfl
@[simp] theorem State.setCounter_command (s : State) (k n : Nat) : (s.setCounter k n).command = s.command := rfl
@[simp] theorem State.setCounter_report (s : State) (k n : Nat) : (s.setCounter k n).report = s.report := rfl
@[simp] theorem State.setCounter_notices (s : State) (k n : Nat) : (s.setCounter k n).notices = s.notices := rfl
@[simp] theorem State.setCounter_time (s : State) (k n : Nat) : (s.setCounter k n).time = s.time := rfl
@[simp] theorem State.setCounter_memoryPort (s : State) (k n : Nat) :
    (s.setCounter k n).memoryPort = s.memoryPort := rfl
@[simp] theorem State.setCounter_processorPort (s : State) (k n : Nat) :
    (s.setCounter k n).processorPort = s.processorPort := rfl
@[simp] theorem State.setCounter_freeCount (s : State) (k n : Nat) : (s.setCounter k n).freeCount = s.freeCount := rfl
@[simp] theorem State.setCounter_pending (s : State) (k n : Nat) : (s.setCounter k n).pending = s.pending := rfl

/-! ### resetCounters -/

@[simp] theorem State.resetCounters_anchorSel (s : State) : (s.resetCounters).anchorSel = s.anchorSel := rfl
@[simp] theorem State.resetCounters_resetAsserted (s : State) :
    (s.resetCounters).resetAsserted = s.resetAsserted := rfl
@[simp] theorem State.resetCounters_queue (s : State) : (s.resetCounters).queue = s.queue := rfl
@[simp] theorem State.resetCounters_policy (s : State) :
    (s.resetCounters).policy = { s.policy with decimation := Vector.replicate 32 1 } := rfl
@[simp] theorem State.resetCounters_denial (s : State) : (s.resetCounters).denial = s.denial := rfl
@[simp] theorem State.resetCounters_capture (s : State) : (s.resetCounters).capture = s.capture := rfl
@[simp] theorem State.resetCounters_eventStream (s : State) : (s.resetCounters).eventStream = s.eventStream := rfl
@[simp] theorem State.resetCounters_captureStream (s : State) :
    (s.resetCounters).captureStream = s.captureStream := rfl
@[simp] theorem State.resetCounters_eventWalker (s : State) : (s.resetCounters).eventWalker = s.eventWalker := rfl
@[simp] theorem State.resetCounters_captureWalker (s : State) :
    (s.resetCounters).captureWalker = s.captureWalker := rfl
@[simp] theorem State.resetCounters_arbiter (s : State) : (s.resetCounters).arbiter = s.arbiter := rfl
@[simp] theorem State.resetCounters_command (s : State) : (s.resetCounters).command = s.command := rfl
@[simp] theorem State.resetCounters_report (s : State) : (s.resetCounters).report = s.report := rfl
@[simp] theorem State.resetCounters_notices (s : State) : (s.resetCounters).notices = s.notices := rfl
@[simp] theorem State.resetCounters_time (s : State) : (s.resetCounters).time = s.time := rfl
@[simp] theorem State.resetCounters_memoryPort (s : State) : (s.resetCounters).memoryPort = s.memoryPort := rfl
@[simp] theorem State.resetCounters_processorPort (s : State) :
    (s.resetCounters).processorPort = s.processorPort := rfl
@[simp] theorem State.resetCounters_freeCount (s : State) : (s.resetCounters).freeCount = s.freeCount := rfl
@[simp] theorem State.resetCounters_pending (s : State) : (s.resetCounters).pending = s.pending := rfl

/-! ### clearCounts -/

@[simp] theorem State.clearCounts_anchorSel (s : State) : (s.clearCounts).anchorSel = s.anchorSel := rfl
@[simp] theorem State.clearCounts_resetAsserted (s : State) : (s.clearCounts).resetAsserted = s.resetAsserted := rfl
@[simp] theorem State.clearCounts_queue (s : State) : (s.clearCounts).queue = s.queue := rfl
@[simp] theorem State.clearCounts_policy (s : State) :
    (s.clearCounts).policy = { s.policy with slotCounts := Vector.replicate 32 0 } := rfl
@[simp] theorem State.clearCounts_denial (s : State) :
    (s.clearCounts).denial = { s.denial with defaultCount := 0 } := rfl
@[simp] theorem State.clearCounts_capture (s : State) : (s.clearCounts).capture = s.capture := rfl
@[simp] theorem State.clearCounts_eventStream (s : State) : (s.clearCounts).eventStream = s.eventStream := rfl
@[simp] theorem State.clearCounts_captureStream (s : State) : (s.clearCounts).captureStream = s.captureStream := rfl
@[simp] theorem State.clearCounts_eventWalker (s : State) : (s.clearCounts).eventWalker = s.eventWalker := rfl
@[simp] theorem State.clearCounts_captureWalker (s : State) : (s.clearCounts).captureWalker = s.captureWalker := rfl
@[simp] theorem State.clearCounts_arbiter (s : State) : (s.clearCounts).arbiter = s.arbiter := rfl
@[simp] theorem State.clearCounts_command (s : State) : (s.clearCounts).command = s.command := rfl
@[simp] theorem State.clearCounts_report (s : State) : (s.clearCounts).report = s.report := rfl
@[simp] theorem State.clearCounts_notices (s : State) : (s.clearCounts).notices = s.notices := rfl
@[simp] theorem State.clearCounts_time (s : State) : (s.clearCounts).time = s.time := rfl
@[simp] theorem State.clearCounts_memoryPort (s : State) : (s.clearCounts).memoryPort = s.memoryPort := rfl
@[simp] theorem State.clearCounts_processorPort (s : State) : (s.clearCounts).processorPort = s.processorPort := rfl
@[simp] theorem State.clearCounts_freeCount (s : State) : (s.clearCounts).freeCount = s.freeCount := rfl
@[simp] theorem State.clearCounts_pending (s : State) : (s.clearCounts).pending = s.pending := rfl

/-! ### counted -/

@[simp] theorem State.counted_anchorSel (s : State) : (s.counted).anchorSel = s.anchorSel := rfl
@[simp] theorem State.counted_resetAsserted (s : State) : (s.counted).resetAsserted = s.resetAsserted := rfl
@[simp] theorem State.counted_queue (s : State) : (s.counted).queue = s.queue := rfl
@[simp] theorem State.counted_policy (s : State) : (s.counted).policy = s.policy := rfl
@[simp] theorem State.counted_denial (s : State) : (s.counted).denial = s.denial := rfl
@[simp] theorem State.counted_capture (s : State) : (s.counted).capture = s.capture := rfl
@[simp] theorem State.counted_eventStream (s : State) : (s.counted).eventStream = s.eventStream := rfl
@[simp] theorem State.counted_captureStream (s : State) : (s.counted).captureStream = s.captureStream := rfl
@[simp] theorem State.counted_eventWalker (s : State) : (s.counted).eventWalker = s.eventWalker := rfl
@[simp] theorem State.counted_captureWalker (s : State) : (s.counted).captureWalker = s.captureWalker := rfl
@[simp] theorem State.counted_arbiter (s : State) : (s.counted).arbiter = s.arbiter := rfl
@[simp] theorem State.counted_command (s : State) :
    (s.counted).command = { s.command with count := s.command.count + 1 } := rfl
@[simp] theorem State.counted_report (s : State) : (s.counted).report = s.report := rfl
@[simp] theorem State.counted_notices (s : State) : (s.counted).notices = s.notices := rfl
@[simp] theorem State.counted_time (s : State) : (s.counted).time = s.time := rfl
@[simp] theorem State.counted_memoryPort (s : State) : (s.counted).memoryPort = s.memoryPort := rfl
@[simp] theorem State.counted_processorPort (s : State) : (s.counted).processorPort = s.processorPort := rfl
@[simp] theorem State.counted_freeCount (s : State) : (s.counted).freeCount = s.freeCount := rfl
@[simp] theorem State.counted_pending (s : State) : (s.counted).pending = s.pending := rfl

/-! ### startRunning -/

@[simp] theorem State.startRunning_anchorSel (s : State) (c : Command) (n : BitVec 8) (x : Option StreamId) :
    (s.startRunning c n x).anchorSel = s.anchorSel := rfl
@[simp] theorem State.startRunning_resetAsserted (s : State) (c : Command) (n : BitVec 8) (x : Option StreamId) :
    (s.startRunning c n x).resetAsserted = s.resetAsserted := rfl
@[simp] theorem State.startRunning_queue (s : State) (c : Command) (n : BitVec 8) (x : Option StreamId) :
    (s.startRunning c n x).queue = s.queue := rfl
@[simp] theorem State.startRunning_policy (s : State) (c : Command) (n : BitVec 8) (x : Option StreamId) :
    (s.startRunning c n x).policy = s.policy := rfl
@[simp] theorem State.startRunning_denial (s : State) (c : Command) (n : BitVec 8) (x : Option StreamId) :
    (s.startRunning c n x).denial = s.denial := rfl
@[simp] theorem State.startRunning_capture (s : State) (c : Command) (n : BitVec 8) (x : Option StreamId) :
    (s.startRunning c n x).capture = s.capture := rfl
@[simp] theorem State.startRunning_eventStream (s : State) (c : Command) (n : BitVec 8) (x : Option StreamId) :
    (s.startRunning c n x).eventStream = s.eventStream := rfl
@[simp] theorem State.startRunning_captureStream (s : State) (c : Command) (n : BitVec 8) (x : Option StreamId) :
    (s.startRunning c n x).captureStream = s.captureStream := rfl
@[simp] theorem State.startRunning_eventWalker (s : State) (c : Command) (n : BitVec 8) (x : Option StreamId) :
    (s.startRunning c n x).eventWalker = s.eventWalker := rfl
@[simp] theorem State.startRunning_captureWalker (s : State) (c : Command) (n : BitVec 8) (x : Option StreamId) :
    (s.startRunning c n x).captureWalker = s.captureWalker := rfl
@[simp] theorem State.startRunning_arbiter (s : State) (c : Command) (n : BitVec 8) (x : Option StreamId) :
    (s.startRunning c n x).arbiter = s.arbiter := rfl
@[simp] theorem State.startRunning_command (s : State) (c : Command) (n : BitVec 8) (x : Option StreamId) :
    (s.startRunning c n x).command = { s.command with running := some { code := c.code, number := n, stream := x } } := rfl
@[simp] theorem State.startRunning_report (s : State) (c : Command) (n : BitVec 8) (x : Option StreamId) :
    (s.startRunning c n x).report = s.report := rfl
@[simp] theorem State.startRunning_notices (s : State) (c : Command) (n : BitVec 8) (x : Option StreamId) :
    (s.startRunning c n x).notices = s.notices := rfl
@[simp] theorem State.startRunning_time (s : State) (c : Command) (n : BitVec 8) (x : Option StreamId) :
    (s.startRunning c n x).time = s.time := rfl
@[simp] theorem State.startRunning_memoryPort (s : State) (c : Command) (n : BitVec 8) (x : Option StreamId) :
    (s.startRunning c n x).memoryPort = s.memoryPort := rfl
@[simp] theorem State.startRunning_processorPort (s : State) (c : Command) (n : BitVec 8) (x : Option StreamId) :
    (s.startRunning c n x).processorPort = s.processorPort := rfl
@[simp] theorem State.startRunning_freeCount (s : State) (c : Command) (n : BitVec 8) (x : Option StreamId) :
    (s.startRunning c n x).freeCount = s.freeCount := rfl
@[simp] theorem State.startRunning_pending (s : State) (c : Command) (n : BitVec 8) (x : Option StreamId) :
    (s.startRunning c n x).pending = s.pending := rfl

/-! ### endDelivery -/

@[simp] theorem State.endDelivery_anchorSel (s : State) : (s.endDelivery).anchorSel = s.anchorSel := rfl
@[simp] theorem State.endDelivery_resetAsserted (s : State) : (s.endDelivery).resetAsserted = s.resetAsserted := rfl
@[simp] theorem State.endDelivery_queue (s : State) : (s.endDelivery).queue = promoteHead s.queue.tail := rfl
@[simp] theorem State.endDelivery_policy (s : State) : (s.endDelivery).policy = s.policy := rfl
@[simp] theorem State.endDelivery_denial (s : State) : (s.endDelivery).denial = s.denial := rfl
@[simp] theorem State.endDelivery_capture (s : State) : (s.endDelivery).capture = s.capture := rfl
@[simp] theorem State.endDelivery_eventStream (s : State) : (s.endDelivery).eventStream = s.eventStream := rfl
@[simp] theorem State.endDelivery_captureStream (s : State) : (s.endDelivery).captureStream = s.captureStream := rfl
@[simp] theorem State.endDelivery_eventWalker (s : State) : (s.endDelivery).eventWalker = s.eventWalker := rfl
@[simp] theorem State.endDelivery_captureWalker (s : State) : (s.endDelivery).captureWalker = s.captureWalker := rfl
@[simp] theorem State.endDelivery_arbiter (s : State) : (s.endDelivery).arbiter = s.arbiter := rfl
@[simp] theorem State.endDelivery_command (s : State) : (s.endDelivery).command = s.command := rfl
@[simp] theorem State.endDelivery_report (s : State) : (s.endDelivery).report = s.report := rfl
@[simp] theorem State.endDelivery_notices (s : State) : (s.endDelivery).notices = s.notices := rfl
@[simp] theorem State.endDelivery_time (s : State) : (s.endDelivery).time = s.time := rfl
@[simp] theorem State.endDelivery_memoryPort (s : State) : (s.endDelivery).memoryPort = s.memoryPort := rfl
@[simp] theorem State.endDelivery_processorPort (s : State) : (s.endDelivery).processorPort = s.delivering := rfl
@[simp] theorem State.endDelivery_freeCount (s : State) : (s.endDelivery).freeCount = s.freeCount := rfl
@[simp] theorem State.endDelivery_pending (s : State) : (s.endDelivery).pending = s.pending := rfl

/-! ### storeResponse -/

@[simp] theorem State.storeResponse_anchorSel (s : State) (a : MemResponse) :
    (s.storeResponse a).anchorSel = s.anchorSel := rfl
@[simp] theorem State.storeResponse_resetAsserted (s : State) (a : MemResponse) :
    (s.storeResponse a).resetAsserted = s.resetAsserted := rfl
@[simp] theorem State.storeResponse_queue (s : State) (a : MemResponse) :
    (s.storeResponse a).queue = promoteHead (updateFirst QueueEntry.isAtMemory (fun e => { e with state := .held, response := some (storedResponse e.request.kind a) }) s.queue) := rfl
@[simp] theorem State.storeResponse_policy (s : State) (a : MemResponse) :
    (s.storeResponse a).policy = s.policy := rfl
@[simp] theorem State.storeResponse_denial (s : State) (a : MemResponse) :
    (s.storeResponse a).denial = s.denial := rfl
@[simp] theorem State.storeResponse_capture (s : State) (a : MemResponse) :
    (s.storeResponse a).capture = s.capture := rfl
@[simp] theorem State.storeResponse_eventStream (s : State) (a : MemResponse) :
    (s.storeResponse a).eventStream = s.eventStream := rfl
@[simp] theorem State.storeResponse_captureStream (s : State) (a : MemResponse) :
    (s.storeResponse a).captureStream = s.captureStream := rfl
@[simp] theorem State.storeResponse_eventWalker (s : State) (a : MemResponse) :
    (s.storeResponse a).eventWalker = s.eventWalker := rfl
@[simp] theorem State.storeResponse_captureWalker (s : State) (a : MemResponse) :
    (s.storeResponse a).captureWalker = s.captureWalker := rfl
@[simp] theorem State.storeResponse_arbiter (s : State) (a : MemResponse) :
    (s.storeResponse a).arbiter = s.arbiter := rfl
@[simp] theorem State.storeResponse_command (s : State) (a : MemResponse) :
    (s.storeResponse a).command = s.command := rfl
@[simp] theorem State.storeResponse_report (s : State) (a : MemResponse) :
    (s.storeResponse a).report = s.report := rfl
@[simp] theorem State.storeResponse_notices (s : State) (a : MemResponse) :
    (s.storeResponse a).notices = s.notices := rfl
@[simp] theorem State.storeResponse_time (s : State) (a : MemResponse) : (s.storeResponse a).time = s.time := rfl
@[simp] theorem State.storeResponse_memoryPort (s : State) (a : MemResponse) :
    (s.storeResponse a).memoryPort = s.memoryPort := rfl
@[simp] theorem State.storeResponse_processorPort (s : State) (a : MemResponse) :
    (s.storeResponse a).processorPort = s.processorPort := rfl
@[simp] theorem State.storeResponse_freeCount (s : State) (a : MemResponse) :
    (s.storeResponse a).freeCount = s.freeCount := rfl
@[simp] theorem State.storeResponse_pending (s : State) (a : MemResponse) :
    (s.storeResponse a).pending = s.pending := rfl

/-! ### voidWalkers -/

@[simp] theorem State.voidWalkers_anchorSel (s : State) : (s.voidWalkers).anchorSel = s.anchorSel := rfl
@[simp] theorem State.voidWalkers_resetAsserted (s : State) : (s.voidWalkers).resetAsserted = s.resetAsserted := rfl
@[simp] theorem State.voidWalkers_queue (s : State) : (s.voidWalkers).queue = s.queue := rfl
@[simp] theorem State.voidWalkers_policy (s : State) : (s.voidWalkers).policy = s.policy := rfl
@[simp] theorem State.voidWalkers_denial (s : State) : (s.voidWalkers).denial = s.denial := rfl
@[simp] theorem State.voidWalkers_capture (s : State) : (s.voidWalkers).capture = s.capture := rfl
@[simp] theorem State.voidWalkers_eventStream (s : State) : (s.voidWalkers).eventStream = s.eventStream := rfl
@[simp] theorem State.voidWalkers_captureStream (s : State) : (s.voidWalkers).captureStream = s.captureStream := rfl
@[simp] theorem State.voidWalkers_eventWalker (s : State) : (s.voidWalkers).eventWalker = s.eventWalker := rfl
@[simp] theorem State.voidWalkers_captureWalker (s : State) : (s.voidWalkers).captureWalker = s.captureWalker := rfl
@[simp] theorem State.voidWalkers_arbiter (s : State) :
    (s.voidWalkers).arbiter = { s.arbiter with issued := s.arbiter.issued.map IssueEntry.voidWalker } := rfl
@[simp] theorem State.voidWalkers_command (s : State) : (s.voidWalkers).command = s.command := rfl
@[simp] theorem State.voidWalkers_report (s : State) : (s.voidWalkers).report = s.report := rfl
@[simp] theorem State.voidWalkers_notices (s : State) : (s.voidWalkers).notices = s.notices := rfl
@[simp] theorem State.voidWalkers_time (s : State) : (s.voidWalkers).time = s.time := rfl
@[simp] theorem State.voidWalkers_memoryPort (s : State) : (s.voidWalkers).memoryPort = s.memoryPort := rfl
@[simp] theorem State.voidWalkers_processorPort (s : State) : (s.voidWalkers).processorPort = s.processorPort := rfl
@[simp] theorem State.voidWalkers_freeCount (s : State) : (s.voidWalkers).freeCount = s.freeCount := rfl
@[simp] theorem State.voidWalkers_pending (s : State) : (s.voidWalkers).pending = s.pending := rfl

/-! ### setStream -/

@[simp] theorem State.setStream_anchorSel (s : State) (i : StreamId) (x : RecordStream) : (s.setStream i x).anchorSel = s.anchorSel := by
  cases i <;> rfl
@[simp] theorem State.setStream_resetAsserted (s : State) (i : StreamId) (x : RecordStream) : (s.setStream i x).resetAsserted = s.resetAsserted := by
  cases i <;> rfl
@[simp] theorem State.setStream_queue (s : State) (i : StreamId) (x : RecordStream) : (s.setStream i x).queue = s.queue := by
  cases i <;> rfl
@[simp] theorem State.setStream_policy (s : State) (i : StreamId) (x : RecordStream) : (s.setStream i x).policy = s.policy := by
  cases i <;> rfl
@[simp] theorem State.setStream_denial (s : State) (i : StreamId) (x : RecordStream) : (s.setStream i x).denial = s.denial := by
  cases i <;> rfl
@[simp] theorem State.setStream_capture (s : State) (i : StreamId) (x : RecordStream) : (s.setStream i x).capture = s.capture := by
  cases i <;> rfl
@[simp] theorem State.setStream_eventWalker (s : State) (i : StreamId) (x : RecordStream) : (s.setStream i x).eventWalker = s.eventWalker := by
  cases i <;> rfl
@[simp] theorem State.setStream_captureWalker (s : State) (i : StreamId) (x : RecordStream) : (s.setStream i x).captureWalker = s.captureWalker := by
  cases i <;> rfl
@[simp] theorem State.setStream_arbiter (s : State) (i : StreamId) (x : RecordStream) : (s.setStream i x).arbiter = s.arbiter := by
  cases i <;> rfl
@[simp] theorem State.setStream_command (s : State) (i : StreamId) (x : RecordStream) : (s.setStream i x).command = s.command := by
  cases i <;> rfl
@[simp] theorem State.setStream_report (s : State) (i : StreamId) (x : RecordStream) : (s.setStream i x).report = s.report := by
  cases i <;> rfl
@[simp] theorem State.setStream_notices (s : State) (i : StreamId) (x : RecordStream) : (s.setStream i x).notices = s.notices := by
  cases i <;> rfl
@[simp] theorem State.setStream_time (s : State) (i : StreamId) (x : RecordStream) : (s.setStream i x).time = s.time := by
  cases i <;> rfl
@[simp] theorem State.setStream_memoryPort (s : State) (i : StreamId) (x : RecordStream) : (s.setStream i x).memoryPort = s.memoryPort := by
  cases i <;> rfl
@[simp] theorem State.setStream_processorPort (s : State) (i : StreamId) (x : RecordStream) : (s.setStream i x).processorPort = s.processorPort := by
  cases i <;> rfl
@[simp] theorem State.setStream_freeCount (s : State) (i : StreamId) (x : RecordStream) : (s.setStream i x).freeCount = s.freeCount := by
  cases i <;> rfl
@[simp] theorem State.setStream_pending (s : State) (i : StreamId) (x : RecordStream) : (s.setStream i x).pending = s.pending := by
  cases i <;> rfl
@[simp] theorem State.setStream_event_eventStream (s : State) (x : RecordStream) : (s.setStream .event x).eventStream = x := rfl
@[simp] theorem State.setStream_event_captureStream (s : State) (x : RecordStream) : (s.setStream .event x).captureStream = s.captureStream := rfl
@[simp] theorem State.setStream_capture_captureStream (s : State) (x : RecordStream) : (s.setStream .capture x).captureStream = x := rfl
@[simp] theorem State.setStream_capture_eventStream (s : State) (x : RecordStream) : (s.setStream .capture x).eventStream = s.eventStream := rfl

/-! ### setWalker -/

@[simp] theorem State.setWalker_anchorSel (s : State) (i : StreamId) (x : Walker) : (s.setWalker i x).anchorSel = s.anchorSel := by
  cases i <;> rfl
@[simp] theorem State.setWalker_resetAsserted (s : State) (i : StreamId) (x : Walker) : (s.setWalker i x).resetAsserted = s.resetAsserted := by
  cases i <;> rfl
@[simp] theorem State.setWalker_queue (s : State) (i : StreamId) (x : Walker) : (s.setWalker i x).queue = s.queue := by
  cases i <;> rfl
@[simp] theorem State.setWalker_policy (s : State) (i : StreamId) (x : Walker) : (s.setWalker i x).policy = s.policy := by
  cases i <;> rfl
@[simp] theorem State.setWalker_denial (s : State) (i : StreamId) (x : Walker) : (s.setWalker i x).denial = s.denial := by
  cases i <;> rfl
@[simp] theorem State.setWalker_capture (s : State) (i : StreamId) (x : Walker) : (s.setWalker i x).capture = s.capture := by
  cases i <;> rfl
@[simp] theorem State.setWalker_eventStream (s : State) (i : StreamId) (x : Walker) : (s.setWalker i x).eventStream = s.eventStream := by
  cases i <;> rfl
@[simp] theorem State.setWalker_captureStream (s : State) (i : StreamId) (x : Walker) : (s.setWalker i x).captureStream = s.captureStream := by
  cases i <;> rfl
@[simp] theorem State.setWalker_arbiter (s : State) (i : StreamId) (x : Walker) : (s.setWalker i x).arbiter = s.arbiter := by
  cases i <;> rfl
@[simp] theorem State.setWalker_command (s : State) (i : StreamId) (x : Walker) : (s.setWalker i x).command = s.command := by
  cases i <;> rfl
@[simp] theorem State.setWalker_report (s : State) (i : StreamId) (x : Walker) : (s.setWalker i x).report = s.report := by
  cases i <;> rfl
@[simp] theorem State.setWalker_notices (s : State) (i : StreamId) (x : Walker) : (s.setWalker i x).notices = s.notices := by
  cases i <;> rfl
@[simp] theorem State.setWalker_time (s : State) (i : StreamId) (x : Walker) : (s.setWalker i x).time = s.time := by
  cases i <;> rfl
@[simp] theorem State.setWalker_memoryPort (s : State) (i : StreamId) (x : Walker) : (s.setWalker i x).memoryPort = s.memoryPort := by
  cases i <;> rfl
@[simp] theorem State.setWalker_processorPort (s : State) (i : StreamId) (x : Walker) : (s.setWalker i x).processorPort = s.processorPort := by
  cases i <;> rfl
@[simp] theorem State.setWalker_freeCount (s : State) (i : StreamId) (x : Walker) : (s.setWalker i x).freeCount = s.freeCount := by
  cases i <;> rfl
@[simp] theorem State.setWalker_pending (s : State) (i : StreamId) (x : Walker) : (s.setWalker i x).pending = s.pending := by
  cases i <;> rfl
@[simp] theorem State.setWalker_event_eventWalker (s : State) (x : Walker) : (s.setWalker .event x).eventWalker = x := rfl
@[simp] theorem State.setWalker_event_captureWalker (s : State) (x : Walker) : (s.setWalker .event x).captureWalker = s.captureWalker := rfl
@[simp] theorem State.setWalker_capture_captureWalker (s : State) (x : Walker) : (s.setWalker .capture x).captureWalker = x := rfl
@[simp] theorem State.setWalker_capture_eventWalker (s : State) (x : Walker) : (s.setWalker .capture x).eventWalker = s.eventWalker := rfl

/-! ### Streams and walkers by their name -/

@[simp] theorem State.stream_setStream (s : State) (i j : StreamId) (x : RecordStream) :
    (s.setStream i x).stream j = if j = i then x else s.stream j := by
  cases i <;> cases j <;> rfl

@[simp] theorem State.walker_setStream (s : State) (i j : StreamId) (x : RecordStream) :
    (s.setStream i x).walker j = s.walker j := by
  cases i <;> cases j <;> rfl

@[simp] theorem State.walker_setWalker (s : State) (i j : StreamId) (w : Walker) :
    (s.setWalker i w).walker j = if j = i then w else s.walker j := by
  cases i <;> cases j <;> rfl

@[simp] theorem State.stream_setWalker (s : State) (i j : StreamId) (w : Walker) :
    (s.setWalker i w).stream j = s.stream j := by
  cases i <;> cases j <;> rfl

end Sys2Proof.Machine
end

