-- ==== Sys2Proof/Laws/Frames.lean ====
section
/-! SUPPORT. The frame of each shared operation: the fields it leaves as they stand. Each lemma is a conjunction, which
`simp` splits into one rewriting rule for each field. -/

namespace Sys2Proof.Machine

@[simp] theorem State.markDirtyIf_frame (s : State) (b : Bool) (c : Section) :
    (s.markDirtyIf b c).anchorSel = s.anchorSel ∧ (s.markDirtyIf b c).resetAsserted = s.resetAsserted ∧
    (s.markDirtyIf b c).queue = s.queue ∧ (s.markDirtyIf b c).policy = s.policy ∧ (s.markDirtyIf b c).denial =
    s.denial ∧ (s.markDirtyIf b c).capture = s.capture ∧ (s.markDirtyIf b c).eventStream = s.eventStream ∧
    (s.markDirtyIf b c).captureStream = s.captureStream ∧ (s.markDirtyIf b c).eventWalker = s.eventWalker ∧
    (s.markDirtyIf b c).captureWalker = s.captureWalker ∧ (s.markDirtyIf b c).arbiter = s.arbiter ∧ (s.markDirtyIf
    b c).command = s.command ∧ (s.markDirtyIf b c).notices = s.notices ∧ (s.markDirtyIf b c).time = s.time ∧
    (s.markDirtyIf b c).memoryPort = s.memoryPort ∧ (s.markDirtyIf b c).processorPort = s.processorPort ∧
    (s.markDirtyIf b c).freeCount = s.freeCount ∧ (s.markDirtyIf b c).pending = s.pending := by
  unfold State.markDirtyIf
  try dsimp only
  repeat' split
  all_goals simp

@[simp] theorem State.raise_frame (s : State) (n : Notice) :
    (s.raise n).anchorSel = s.anchorSel ∧ (s.raise n).resetAsserted = s.resetAsserted ∧ (s.raise n).queue =
    s.queue ∧ (s.raise n).policy = s.policy ∧ (s.raise n).denial = s.denial ∧ (s.raise n).capture = s.capture ∧
    (s.raise n).eventStream = s.eventStream ∧ (s.raise n).captureStream = s.captureStream ∧ (s.raise
    n).eventWalker = s.eventWalker ∧ (s.raise n).captureWalker = s.captureWalker ∧ (s.raise n).arbiter = s.arbiter
    ∧ (s.raise n).command = s.command ∧ (s.raise n).time = s.time ∧ (s.raise n).memoryPort = s.memoryPort ∧
    (s.raise n).processorPort = s.processorPort ∧ (s.raise n).freeCount = s.freeCount ∧ (s.raise n).pending =
    s.pending := by
  unfold State.raise
  try dsimp only
  repeat' split
  all_goals simp

@[simp] theorem State.countLost_frame (s : State) (i : StreamId) (k : Nat) :
    (s.countLost i k).anchorSel = s.anchorSel ∧ (s.countLost i k).resetAsserted = s.resetAsserted ∧ (s.countLost i
    k).queue = s.queue ∧ (s.countLost i k).policy = s.policy ∧ (s.countLost i k).denial = s.denial ∧ (s.countLost
    i k).capture = s.capture ∧ (s.countLost i k).eventWalker = s.eventWalker ∧ (s.countLost i k).captureWalker =
    s.captureWalker ∧ (s.countLost i k).arbiter = s.arbiter ∧ (s.countLost i k).command = s.command ∧ (s.countLost
    i k).time = s.time ∧ (s.countLost i k).memoryPort = s.memoryPort ∧ (s.countLost i k).processorPort =
    s.processorPort ∧ (s.countLost i k).freeCount = s.freeCount ∧ (s.countLost i k).pending = s.pending := by
  unfold State.countLost
  try dsimp only
  repeat' split
  all_goals simp

@[simp] theorem State.offer_frame (s : State) (i : StreamId) (r : Record) :
    (s.offer i r).anchorSel = s.anchorSel ∧ (s.offer i r).resetAsserted = s.resetAsserted ∧ (s.offer i r).queue =
    s.queue ∧ (s.offer i r).policy = s.policy ∧ (s.offer i r).denial = s.denial ∧ (s.offer i r).capture =
    s.capture ∧ (s.offer i r).eventWalker = s.eventWalker ∧ (s.offer i r).captureWalker = s.captureWalker ∧
    (s.offer i r).arbiter = s.arbiter ∧ (s.offer i r).command = s.command ∧ (s.offer i r).time = s.time ∧ (s.offer
    i r).memoryPort = s.memoryPort ∧ (s.offer i r).processorPort = s.processorPort ∧ (s.offer i r).freeCount =
    s.freeCount ∧ (s.offer i r).pending = s.pending := by
  unfold State.offer
  try dsimp only
  repeat' split
  all_goals simp

@[simp] theorem State.setResult_frame (s : State) (c : BitVec 8) (r : Result) (f : Nat) (n : BitVec 8) :
    (s.setResult c r f n).anchorSel = s.anchorSel ∧ (s.setResult c r f n).resetAsserted = s.resetAsserted ∧
    (s.setResult c r f n).queue = s.queue ∧ (s.setResult c r f n).policy = s.policy ∧ (s.setResult c r f n).denial
    = s.denial ∧ (s.setResult c r f n).capture = s.capture ∧ (s.setResult c r f n).eventStream = s.eventStream ∧
    (s.setResult c r f n).captureStream = s.captureStream ∧ (s.setResult c r f n).eventWalker = s.eventWalker ∧
    (s.setResult c r f n).captureWalker = s.captureWalker ∧ (s.setResult c r f n).arbiter = s.arbiter ∧
    (s.setResult c r f n).time = s.time ∧ (s.setResult c r f n).memoryPort = s.memoryPort ∧ (s.setResult c r f
    n).processorPort = s.processorPort ∧ (s.setResult c r f n).freeCount = s.freeCount ∧ (s.setResult c r f
    n).pending = s.pending := by
  unfold State.setResult
  try dsimp only
  all_goals simp

@[simp] theorem State.answer_frame (s : State) (c : Command) (r : Result) (n : BitVec 8) :
    (s.answer c r n).anchorSel = s.anchorSel ∧ (s.answer c r n).resetAsserted = s.resetAsserted ∧ (s.answer c r
    n).queue = s.queue ∧ (s.answer c r n).policy = s.policy ∧ (s.answer c r n).denial = s.denial ∧ (s.answer c r
    n).capture = s.capture ∧ (s.answer c r n).eventStream = s.eventStream ∧ (s.answer c r n).captureStream =
    s.captureStream ∧ (s.answer c r n).eventWalker = s.eventWalker ∧ (s.answer c r n).captureWalker =
    s.captureWalker ∧ (s.answer c r n).arbiter = s.arbiter ∧ (s.answer c r n).time = s.time ∧ (s.answer c r
    n).memoryPort = s.memoryPort ∧ (s.answer c r n).processorPort = s.processorPort ∧ (s.answer c r n).freeCount =
    s.freeCount ∧ (s.answer c r n).pending = s.pending := by
  unfold State.answer
  try dsimp only
  all_goals simp

@[simp] theorem State.finish_frame (s : State) (w : Option StreamId) (r : Result) (f : Nat) :
    (s.finish w r f).anchorSel = s.anchorSel ∧ (s.finish w r f).resetAsserted = s.resetAsserted ∧ (s.finish w r
    f).queue = s.queue ∧ (s.finish w r f).policy = s.policy ∧ (s.finish w r f).denial = s.denial ∧ (s.finish w r
    f).capture = s.capture ∧ (s.finish w r f).eventStream = s.eventStream ∧ (s.finish w r f).captureStream =
    s.captureStream ∧ (s.finish w r f).eventWalker = s.eventWalker ∧ (s.finish w r f).captureWalker =
    s.captureWalker ∧ (s.finish w r f).arbiter = s.arbiter ∧ (s.finish w r f).time = s.time ∧ (s.finish w r
    f).memoryPort = s.memoryPort ∧ (s.finish w r f).processorPort = s.processorPort ∧ (s.finish w r f).freeCount =
    s.freeCount ∧ (s.finish w r f).pending = s.pending := by
  unfold State.finish
  try dsimp only
  repeat' split
  all_goals simp

@[simp] theorem State.setDenial_frame (s : State) (u : DenialUnit) :
    (s.setDenial u).anchorSel = s.anchorSel ∧ (s.setDenial u).resetAsserted = s.resetAsserted ∧ (s.setDenial
    u).queue = s.queue ∧ (s.setDenial u).policy = s.policy ∧ (s.setDenial u).capture = s.capture ∧ (s.setDenial
    u).eventStream = s.eventStream ∧ (s.setDenial u).captureStream = s.captureStream ∧ (s.setDenial u).eventWalker
    = s.eventWalker ∧ (s.setDenial u).captureWalker = s.captureWalker ∧ (s.setDenial u).arbiter = s.arbiter ∧
    (s.setDenial u).command = s.command ∧ (s.setDenial u).notices = s.notices ∧ (s.setDenial u).time = s.time ∧
    (s.setDenial u).memoryPort = s.memoryPort ∧ (s.setDenial u).processorPort = s.processorPort ∧ (s.setDenial
    u).freeCount = s.freeCount ∧ (s.setDenial u).pending = s.pending := by
  unfold State.setDenial
  try dsimp only
  all_goals simp

@[simp] theorem State.countDenial_frame (s : State) (k : DenialKind) (e : Option Nat) :
    (s.countDenial k e).anchorSel = s.anchorSel ∧ (s.countDenial k e).resetAsserted = s.resetAsserted ∧
    (s.countDenial k e).queue = s.queue ∧ (s.countDenial k e).capture = s.capture ∧ (s.countDenial k
    e).eventStream = s.eventStream ∧ (s.countDenial k e).captureStream = s.captureStream ∧ (s.countDenial k
    e).eventWalker = s.eventWalker ∧ (s.countDenial k e).captureWalker = s.captureWalker ∧ (s.countDenial k
    e).arbiter = s.arbiter ∧ (s.countDenial k e).command = s.command ∧ (s.countDenial k e).report = s.report ∧
    (s.countDenial k e).notices = s.notices ∧ (s.countDenial k e).time = s.time ∧ (s.countDenial k e).memoryPort =
    s.memoryPort ∧ (s.countDenial k e).processorPort = s.processorPort ∧ (s.countDenial k e).freeCount =
    s.freeCount ∧ (s.countDenial k e).pending = s.pending := by
  unfold State.countDenial
  try dsimp only
  repeat' split
  all_goals simp

@[simp] theorem State.accountDenial_frame (s : State) (i : DenialInfo) :
    (s.accountDenial i).anchorSel = s.anchorSel ∧ (s.accountDenial i).resetAsserted = s.resetAsserted ∧
    (s.accountDenial i).queue = s.queue ∧ (s.accountDenial i).capture = s.capture ∧ (s.accountDenial
    i).eventStream = s.eventStream ∧ (s.accountDenial i).captureStream = s.captureStream ∧ (s.accountDenial
    i).eventWalker = s.eventWalker ∧ (s.accountDenial i).captureWalker = s.captureWalker ∧ (s.accountDenial
    i).arbiter = s.arbiter ∧ (s.accountDenial i).command = s.command ∧ (s.accountDenial i).time = s.time ∧
    (s.accountDenial i).memoryPort = s.memoryPort ∧ (s.accountDenial i).processorPort = s.processorPort ∧
    (s.accountDenial i).freeCount = s.freeCount ∧ (s.accountDenial i).pending = s.pending := by
  unfold State.accountDenial
  try dsimp only
  all_goals simp

@[simp] theorem State.reportDenial_frame (s : State) (i : DenialInfo) (t : DenialTerms) :
    (State.reportDenial i t s).anchorSel = s.anchorSel ∧ (State.reportDenial i t s).resetAsserted =
    s.resetAsserted ∧ (State.reportDenial i t s).queue = s.queue ∧ (State.reportDenial i t s).policy = s.policy ∧
    (State.reportDenial i t s).denial = s.denial ∧ (State.reportDenial i t s).capture = s.capture ∧
    (State.reportDenial i t s).eventWalker = s.eventWalker ∧ (State.reportDenial i t s).captureWalker =
    s.captureWalker ∧ (State.reportDenial i t s).arbiter = s.arbiter ∧ (State.reportDenial i t s).command =
    s.command ∧ (State.reportDenial i t s).time = s.time ∧ (State.reportDenial i t s).memoryPort = s.memoryPort ∧
    (State.reportDenial i t s).processorPort = s.processorPort ∧ (State.reportDenial i t s).freeCount =
    s.freeCount ∧ (State.reportDenial i t s).pending = s.pending := by
  unfold State.reportDenial
  try dsimp only
  repeat' split
  all_goals simp

@[simp] theorem State.changeCapture_frame (s : State) (c : CaptureState) :
    (s.changeCapture c).anchorSel = s.anchorSel ∧ (s.changeCapture c).resetAsserted = s.resetAsserted ∧
    (s.changeCapture c).queue = s.queue ∧ (s.changeCapture c).policy = s.policy ∧ (s.changeCapture c).denial =
    s.denial ∧ (s.changeCapture c).eventWalker = s.eventWalker ∧ (s.changeCapture c).captureWalker =
    s.captureWalker ∧ (s.changeCapture c).arbiter = s.arbiter ∧ (s.changeCapture c).command = s.command ∧
    (s.changeCapture c).time = s.time ∧ (s.changeCapture c).memoryPort = s.memoryPort ∧ (s.changeCapture
    c).processorPort = s.processorPort ∧ (s.changeCapture c).freeCount = s.freeCount ∧ (s.changeCapture c).pending
    = s.pending := by
  unfold State.changeCapture
  try dsimp only
  repeat' split
  all_goals simp

@[simp] theorem State.offerDue_frame (gs : List ClosedGroup) (s : State) :
    (s.offerDue gs).anchorSel = s.anchorSel ∧ (s.offerDue gs).resetAsserted = s.resetAsserted ∧ (s.offerDue
    gs).queue = s.queue ∧ (s.offerDue gs).policy = s.policy ∧ (s.offerDue gs).denial = s.denial ∧ (s.offerDue
    gs).eventWalker = s.eventWalker ∧ (s.offerDue gs).captureWalker = s.captureWalker ∧ (s.offerDue gs).arbiter =
    s.arbiter ∧ (s.offerDue gs).command = s.command ∧ (s.offerDue gs).time = s.time ∧ (s.offerDue gs).memoryPort =
    s.memoryPort ∧ (s.offerDue gs).processorPort = s.processorPort ∧ (s.offerDue gs).freeCount = s.freeCount ∧
    (s.offerDue gs).pending = s.pending := by
  induction gs generalizing s with
  | nil => simp [State.offerDue]
  | cons g gs ih =>
    simp only [State.offerDue]
    split <;> simp [ih]

@[simp] theorem State.endDueGroups_frame (s : State) :
    (s.endDueGroups).anchorSel = s.anchorSel ∧ (s.endDueGroups).resetAsserted = s.resetAsserted ∧
    (s.endDueGroups).queue = s.queue ∧ (s.endDueGroups).policy = s.policy ∧ (s.endDueGroups).denial = s.denial ∧
    (s.endDueGroups).eventWalker = s.eventWalker ∧ (s.endDueGroups).captureWalker = s.captureWalker ∧
    (s.endDueGroups).arbiter = s.arbiter ∧ (s.endDueGroups).command = s.command ∧ (s.endDueGroups).time = s.time ∧
    (s.endDueGroups).memoryPort = s.memoryPort ∧ (s.endDueGroups).processorPort = s.processorPort ∧
    (s.endDueGroups).freeCount = s.freeCount ∧ (s.endDueGroups).pending = s.pending := by
  unfold State.endDueGroups
  try dsimp only
  all_goals simp

@[simp] theorem State.closeGroup_frame (s : State) (r : GroupReason) :
    (s.closeGroup r).anchorSel = s.anchorSel ∧ (s.closeGroup r).resetAsserted = s.resetAsserted ∧ (s.closeGroup
    r).queue = s.queue ∧ (s.closeGroup r).policy = s.policy ∧ (s.closeGroup r).denial = s.denial ∧ (s.closeGroup
    r).eventWalker = s.eventWalker ∧ (s.closeGroup r).captureWalker = s.captureWalker ∧ (s.closeGroup r).arbiter =
    s.arbiter ∧ (s.closeGroup r).command = s.command ∧ (s.closeGroup r).time = s.time ∧ (s.closeGroup
    r).memoryPort = s.memoryPort ∧ (s.closeGroup r).processorPort = s.processorPort ∧ (s.closeGroup r).freeCount =
    s.freeCount ∧ (s.closeGroup r).pending = s.pending := by
  unfold State.closeGroup
  try dsimp only
  repeat' split
  all_goals simp

@[simp] theorem State.captureAccess_frame (s : State) (r : Request) (d : DecisionRecord) (e : Eligibility) (k : Nat) :
    (s.captureAccess r d e k).anchorSel = s.anchorSel ∧ (s.captureAccess r d e k).resetAsserted = s.resetAsserted
    ∧ (s.captureAccess r d e k).queue = s.queue ∧ (s.captureAccess r d e k).policy = s.policy ∧ (s.captureAccess r
    d e k).denial = s.denial ∧ (s.captureAccess r d e k).eventWalker = s.eventWalker ∧ (s.captureAccess r d e
    k).captureWalker = s.captureWalker ∧ (s.captureAccess r d e k).arbiter = s.arbiter ∧ (s.captureAccess r d e
    k).command = s.command ∧ (s.captureAccess r d e k).time = s.time ∧ (s.captureAccess r d e k).memoryPort =
    s.memoryPort ∧ (s.captureAccess r d e k).processorPort = s.processorPort ∧ (s.captureAccess r d e k).freeCount
    = s.freeCount ∧ (s.captureAccess r d e k).pending = s.pending := by
  unfold State.captureAccess
  try dsimp only
  repeat' split
  all_goals simp

@[simp] theorem State.countSkip_frame (s : State) :
    (s.countSkip).anchorSel = s.anchorSel ∧ (s.countSkip).resetAsserted = s.resetAsserted ∧ (s.countSkip).queue =
    s.queue ∧ (s.countSkip).policy = s.policy ∧ (s.countSkip).denial = s.denial ∧ (s.countSkip).eventStream =
    s.eventStream ∧ (s.countSkip).captureStream = s.captureStream ∧ (s.countSkip).eventWalker = s.eventWalker ∧
    (s.countSkip).captureWalker = s.captureWalker ∧ (s.countSkip).arbiter = s.arbiter ∧ (s.countSkip).command =
    s.command ∧ (s.countSkip).report = s.report ∧ (s.countSkip).notices = s.notices ∧ (s.countSkip).time = s.time
    ∧ (s.countSkip).memoryPort = s.memoryPort ∧ (s.countSkip).processorPort = s.processorPort ∧
    (s.countSkip).freeCount = s.freeCount ∧ (s.countSkip).pending = s.pending := by
  unfold State.countSkip
  try dsimp only
  repeat' split
  all_goals simp

@[simp] theorem State.consider_frame (s : State) (r : Request) (d : DecisionRecord) (e : Eligibility) (k : Nat) :
    (s.consider r d e k).anchorSel = s.anchorSel ∧ (s.consider r d e k).resetAsserted = s.resetAsserted ∧
    (s.consider r d e k).queue = s.queue ∧ (s.consider r d e k).denial = s.denial ∧ (s.consider r d e
    k).eventWalker = s.eventWalker ∧ (s.consider r d e k).captureWalker = s.captureWalker ∧ (s.consider r d e
    k).arbiter = s.arbiter ∧ (s.consider r d e k).command = s.command ∧ (s.consider r d e k).time = s.time ∧
    (s.consider r d e k).memoryPort = s.memoryPort ∧ (s.consider r d e k).processorPort = s.processorPort ∧
    (s.consider r d e k).freeCount = s.freeCount ∧ (s.consider r d e k).pending = s.pending := by
  unfold State.consider
  try dsimp only
  repeat' split
  all_goals simp

@[simp] theorem State.fireOnEntry_frame (s : State) (k : Nat) :
    (s.fireOnEntry k).anchorSel = s.anchorSel ∧ (s.fireOnEntry k).resetAsserted = s.resetAsserted ∧ (s.fireOnEntry
    k).queue = s.queue ∧ (s.fireOnEntry k).policy = s.policy ∧ (s.fireOnEntry k).denial = s.denial ∧
    (s.fireOnEntry k).eventWalker = s.eventWalker ∧ (s.fireOnEntry k).captureWalker = s.captureWalker ∧
    (s.fireOnEntry k).arbiter = s.arbiter ∧ (s.fireOnEntry k).command = s.command ∧ (s.fireOnEntry k).time =
    s.time ∧ (s.fireOnEntry k).memoryPort = s.memoryPort ∧ (s.fireOnEntry k).processorPort = s.processorPort ∧
    (s.fireOnEntry k).freeCount = s.freeCount ∧ (s.fireOnEntry k).pending = s.pending := by
  unfold State.fireOnEntry
  try dsimp only
  repeat' split
  all_goals simp

@[simp] theorem State.fireOnDenial_frame (s : State) :
    (s.fireOnDenial).anchorSel = s.anchorSel ∧ (s.fireOnDenial).resetAsserted = s.resetAsserted ∧
    (s.fireOnDenial).queue = s.queue ∧ (s.fireOnDenial).policy = s.policy ∧ (s.fireOnDenial).denial = s.denial ∧
    (s.fireOnDenial).eventWalker = s.eventWalker ∧ (s.fireOnDenial).captureWalker = s.captureWalker ∧
    (s.fireOnDenial).arbiter = s.arbiter ∧ (s.fireOnDenial).command = s.command ∧ (s.fireOnDenial).time = s.time ∧
    (s.fireOnDenial).memoryPort = s.memoryPort ∧ (s.fireOnDenial).processorPort = s.processorPort ∧
    (s.fireOnDenial).freeCount = s.freeCount ∧ (s.fireOnDenial).pending = s.pending := by
  unfold State.fireOnDenial
  try dsimp only
  repeat' split
  all_goals simp

@[simp] theorem State.takeCaptured_frame (s : State) (a : MemResponse) :
    (State.takeCaptured a s).anchorSel = s.anchorSel ∧ (State.takeCaptured a s).resetAsserted = s.resetAsserted ∧
    (State.takeCaptured a s).queue = s.queue ∧ (State.takeCaptured a s).policy = s.policy ∧ (State.takeCaptured a
    s).denial = s.denial ∧ (State.takeCaptured a s).eventWalker = s.eventWalker ∧ (State.takeCaptured a
    s).captureWalker = s.captureWalker ∧ (State.takeCaptured a s).arbiter = s.arbiter ∧ (State.takeCaptured a
    s).command = s.command ∧ (State.takeCaptured a s).time = s.time ∧ (State.takeCaptured a s).memoryPort =
    s.memoryPort ∧ (State.takeCaptured a s).processorPort = s.processorPort ∧ (State.takeCaptured a s).freeCount =
    s.freeCount ∧ (State.takeCaptured a s).pending = s.pending := by
  unfold State.takeCaptured
  try dsimp only
  repeat' split
  all_goals simp

@[simp] theorem State.tickQuiet_frame (s : State) :
    (s.tickQuiet).anchorSel = s.anchorSel ∧ (s.tickQuiet).resetAsserted = s.resetAsserted ∧ (s.tickQuiet).queue =
    s.queue ∧ (s.tickQuiet).policy = s.policy ∧ (s.tickQuiet).denial = s.denial ∧ (s.tickQuiet).eventWalker =
    s.eventWalker ∧ (s.tickQuiet).captureWalker = s.captureWalker ∧ (s.tickQuiet).arbiter = s.arbiter ∧
    (s.tickQuiet).command = s.command ∧ (s.tickQuiet).time = s.time ∧ (s.tickQuiet).memoryPort = s.memoryPort ∧
    (s.tickQuiet).processorPort = s.processorPort ∧ (s.tickQuiet).freeCount = s.freeCount ∧ (s.tickQuiet).pending
    = s.pending := by
  unfold State.tickQuiet
  try dsimp only
  repeat' split
  all_goals simp

@[simp] theorem State.startCapture_frame (s : State) (t : TriggerSettings) :
    (s.startCapture t).anchorSel = s.anchorSel ∧ (s.startCapture t).resetAsserted = s.resetAsserted ∧
    (s.startCapture t).queue = s.queue ∧ (s.startCapture t).denial = s.denial ∧ (s.startCapture t).eventWalker =
    s.eventWalker ∧ (s.startCapture t).captureWalker = s.captureWalker ∧ (s.startCapture t).arbiter = s.arbiter ∧
    (s.startCapture t).command = s.command ∧ (s.startCapture t).time = s.time ∧ (s.startCapture t).memoryPort =
    s.memoryPort ∧ (s.startCapture t).processorPort = s.processorPort ∧ (s.startCapture t).freeCount = s.freeCount
    ∧ (s.startCapture t).pending = s.pending := by
  unfold State.startCapture
  try dsimp only
  repeat' split
  all_goals simp

@[simp] theorem State.stopNow_frame (s : State) :
    (s.stopNow).anchorSel = s.anchorSel ∧ (s.stopNow).resetAsserted = s.resetAsserted ∧ (s.stopNow).queue =
    s.queue ∧ (s.stopNow).policy = s.policy ∧ (s.stopNow).denial = s.denial ∧ (s.stopNow).eventWalker =
    s.eventWalker ∧ (s.stopNow).captureWalker = s.captureWalker ∧ (s.stopNow).arbiter = s.arbiter ∧
    (s.stopNow).command = s.command ∧ (s.stopNow).time = s.time ∧ (s.stopNow).memoryPort = s.memoryPort ∧
    (s.stopNow).processorPort = s.processorPort ∧ (s.stopNow).freeCount = s.freeCount ∧ (s.stopNow).pending =
    s.pending := by
  unfold State.stopNow
  try dsimp only
  repeat' split
  all_goals simp

@[simp] theorem State.stopAtGroupEnd_frame (s : State) :
    (s.stopAtGroupEnd).anchorSel = s.anchorSel ∧ (s.stopAtGroupEnd).resetAsserted = s.resetAsserted ∧
    (s.stopAtGroupEnd).queue = s.queue ∧ (s.stopAtGroupEnd).policy = s.policy ∧ (s.stopAtGroupEnd).denial =
    s.denial ∧ (s.stopAtGroupEnd).eventWalker = s.eventWalker ∧ (s.stopAtGroupEnd).captureWalker = s.captureWalker
    ∧ (s.stopAtGroupEnd).arbiter = s.arbiter ∧ (s.stopAtGroupEnd).command = s.command ∧ (s.stopAtGroupEnd).time =
    s.time ∧ (s.stopAtGroupEnd).memoryPort = s.memoryPort ∧ (s.stopAtGroupEnd).processorPort = s.processorPort ∧
    (s.stopAtGroupEnd).freeCount = s.freeCount ∧ (s.stopAtGroupEnd).pending = s.pending := by
  unfold State.stopAtGroupEnd
  try dsimp only
  repeat' split
  all_goals simp

@[simp] theorem State.resetCapture_frame (s : State) :
    (s.resetCapture).anchorSel = s.anchorSel ∧ (s.resetCapture).resetAsserted = s.resetAsserted ∧
    (s.resetCapture).queue = s.queue ∧ (s.resetCapture).policy = s.policy ∧ (s.resetCapture).denial = s.denial ∧
    (s.resetCapture).eventStream = s.eventStream ∧ (s.resetCapture).captureStream = s.captureStream ∧
    (s.resetCapture).eventWalker = s.eventWalker ∧ (s.resetCapture).captureWalker = s.captureWalker ∧
    (s.resetCapture).arbiter = s.arbiter ∧ (s.resetCapture).command = s.command ∧ (s.resetCapture).notices =
    s.notices ∧ (s.resetCapture).time = s.time ∧ (s.resetCapture).memoryPort = s.memoryPort ∧
    (s.resetCapture).processorPort = s.processorPort ∧ (s.resetCapture).freeCount = s.freeCount ∧
    (s.resetCapture).pending = s.pending := by
  unfold State.resetCapture
  try dsimp only
  all_goals simp

@[simp] theorem State.moveWalker_frame (s : State) (i : StreamId) (w : Walker) :
    (s.moveWalker i w).anchorSel = s.anchorSel ∧ (s.moveWalker i w).resetAsserted = s.resetAsserted ∧
    (s.moveWalker i w).queue = s.queue ∧ (s.moveWalker i w).policy = s.policy ∧ (s.moveWalker i w).denial =
    s.denial ∧ (s.moveWalker i w).capture = s.capture ∧ (s.moveWalker i w).eventStream = s.eventStream ∧
    (s.moveWalker i w).captureStream = s.captureStream ∧ (s.moveWalker i w).arbiter = s.arbiter ∧ (s.moveWalker i
    w).command = s.command ∧ (s.moveWalker i w).notices = s.notices ∧ (s.moveWalker i w).time = s.time ∧
    (s.moveWalker i w).memoryPort = s.memoryPort ∧ (s.moveWalker i w).processorPort = s.processorPort ∧
    (s.moveWalker i w).freeCount = s.freeCount ∧ (s.moveWalker i w).pending = s.pending := by
  unfold State.moveWalker
  try dsimp only
  all_goals simp

@[simp] theorem State.endFlush_frame (s : State) (i : StreamId) (r : Result) :
    (s.endFlush i r).anchorSel = s.anchorSel ∧ (s.endFlush i r).resetAsserted = s.resetAsserted ∧ (s.endFlush i
    r).queue = s.queue ∧ (s.endFlush i r).policy = s.policy ∧ (s.endFlush i r).denial = s.denial ∧ (s.endFlush i
    r).capture = s.capture ∧ (s.endFlush i r).eventStream = s.eventStream ∧ (s.endFlush i r).captureStream =
    s.captureStream ∧ (s.endFlush i r).arbiter = s.arbiter ∧ (s.endFlush i r).time = s.time ∧ (s.endFlush i
    r).memoryPort = s.memoryPort ∧ (s.endFlush i r).processorPort = s.processorPort ∧ (s.endFlush i r).freeCount =
    s.freeCount ∧ (s.endFlush i r).pending = s.pending := by
  unfold State.endFlush
  try dsimp only
  all_goals simp

@[simp] theorem State.cutFlush_frame (s : State) (i : StreamId) (r : Result) :
    (s.cutFlush i r).anchorSel = s.anchorSel ∧ (s.cutFlush i r).resetAsserted = s.resetAsserted ∧ (s.cutFlush i
    r).queue = s.queue ∧ (s.cutFlush i r).policy = s.policy ∧ (s.cutFlush i r).denial = s.denial ∧ (s.cutFlush i
    r).capture = s.capture ∧ (s.cutFlush i r).eventStream = s.eventStream ∧ (s.cutFlush i r).captureStream =
    s.captureStream ∧ (s.cutFlush i r).arbiter = s.arbiter ∧ (s.cutFlush i r).time = s.time ∧ (s.cutFlush i
    r).memoryPort = s.memoryPort ∧ (s.cutFlush i r).processorPort = s.processorPort ∧ (s.cutFlush i r).freeCount =
    s.freeCount ∧ (s.cutFlush i r).pending = s.pending := by
  unfold State.cutFlush
  try dsimp only
  repeat' split
  all_goals simp

@[simp] theorem State.closeBuffer_frame (s : State) (i : StreamId) (r : CloseReason) :
    (s.closeBuffer i r).anchorSel = s.anchorSel ∧ (s.closeBuffer i r).resetAsserted = s.resetAsserted ∧
    (s.closeBuffer i r).queue = s.queue ∧ (s.closeBuffer i r).policy = s.policy ∧ (s.closeBuffer i r).denial =
    s.denial ∧ (s.closeBuffer i r).capture = s.capture ∧ (s.closeBuffer i r).eventStream = s.eventStream ∧
    (s.closeBuffer i r).captureStream = s.captureStream ∧ (s.closeBuffer i r).arbiter = s.arbiter ∧ (s.closeBuffer
    i r).command = s.command ∧ (s.closeBuffer i r).notices = s.notices ∧ (s.closeBuffer i r).time = s.time ∧
    (s.closeBuffer i r).memoryPort = s.memoryPort ∧ (s.closeBuffer i r).processorPort = s.processorPort ∧
    (s.closeBuffer i r).freeCount = s.freeCount ∧ (s.closeBuffer i r).pending = s.pending := by
  unfold State.closeBuffer
  try dsimp only
  all_goals simp

@[simp] theorem State.settleFlush_frame (s : State) (i : StreamId) :
    (s.settleFlush i).anchorSel = s.anchorSel ∧ (s.settleFlush i).resetAsserted = s.resetAsserted ∧ (s.settleFlush
    i).queue = s.queue ∧ (s.settleFlush i).policy = s.policy ∧ (s.settleFlush i).denial = s.denial ∧
    (s.settleFlush i).capture = s.capture ∧ (s.settleFlush i).eventStream = s.eventStream ∧ (s.settleFlush
    i).captureStream = s.captureStream ∧ (s.settleFlush i).arbiter = s.arbiter ∧ (s.settleFlush i).time = s.time ∧
    (s.settleFlush i).memoryPort = s.memoryPort ∧ (s.settleFlush i).processorPort = s.processorPort ∧
    (s.settleFlush i).freeCount = s.freeCount ∧ (s.settleFlush i).pending = s.pending := by
  unfold State.settleFlush
  try dsimp only
  repeat' split
  all_goals simp

@[simp] theorem State.settleClose_frame (s : State) (i : StreamId) (b : Bool) :
    (s.settleClose i b).anchorSel = s.anchorSel ∧ (s.settleClose i b).resetAsserted = s.resetAsserted ∧
    (s.settleClose i b).queue = s.queue ∧ (s.settleClose i b).policy = s.policy ∧ (s.settleClose i b).denial =
    s.denial ∧ (s.settleClose i b).capture = s.capture ∧ (s.settleClose i b).eventStream = s.eventStream ∧
    (s.settleClose i b).captureStream = s.captureStream ∧ (s.settleClose i b).arbiter = s.arbiter ∧ (s.settleClose
    i b).command = s.command ∧ (s.settleClose i b).notices = s.notices ∧ (s.settleClose i b).time = s.time ∧
    (s.settleClose i b).memoryPort = s.memoryPort ∧ (s.settleClose i b).processorPort = s.processorPort ∧
    (s.settleClose i b).freeCount = s.freeCount ∧ (s.settleClose i b).pending = s.pending := by
  unfold State.settleClose
  try dsimp only
  repeat' split
  all_goals simp

@[simp] theorem State.settleWalker_frame (s : State) (i : StreamId) :
    (s.settleWalker i).anchorSel = s.anchorSel ∧ (s.settleWalker i).resetAsserted = s.resetAsserted ∧
    (s.settleWalker i).queue = s.queue ∧ (s.settleWalker i).policy = s.policy ∧ (s.settleWalker i).denial =
    s.denial ∧ (s.settleWalker i).capture = s.capture ∧ (s.settleWalker i).eventStream = s.eventStream ∧
    (s.settleWalker i).captureStream = s.captureStream ∧ (s.settleWalker i).arbiter = s.arbiter ∧ (s.settleWalker
    i).time = s.time ∧ (s.settleWalker i).memoryPort = s.memoryPort ∧ (s.settleWalker i).processorPort =
    s.processorPort ∧ (s.settleWalker i).pending = s.pending := by
  unfold State.settleWalker
  try dsimp only
  repeat' split
  all_goals simp

@[simp] theorem State.settle_frame (s : State) :
    (s.settle).anchorSel = s.anchorSel ∧ (s.settle).resetAsserted = s.resetAsserted ∧ (s.settle).queue = s.queue ∧
    (s.settle).policy = s.policy ∧ (s.settle).denial = s.denial ∧ (s.settle).capture = s.capture ∧
    (s.settle).eventStream = s.eventStream ∧ (s.settle).captureStream = s.captureStream ∧ (s.settle).arbiter =
    s.arbiter ∧ (s.settle).time = s.time ∧ (s.settle).memoryPort = s.memoryPort ∧ (s.settle).processorPort =
    s.processorPort ∧ (s.settle).pending = s.pending := by
  unfold State.settle
  try dsimp only
  all_goals simp

@[simp] theorem State.enterFaulted_frame (s : State) (i : StreamId) (c : FaultCause) :
    (s.enterFaulted i c).anchorSel = s.anchorSel ∧ (s.enterFaulted i c).resetAsserted = s.resetAsserted ∧
    (s.enterFaulted i c).queue = s.queue ∧ (s.enterFaulted i c).policy = s.policy ∧ (s.enterFaulted i c).denial =
    s.denial ∧ (s.enterFaulted i c).capture = s.capture ∧ (s.enterFaulted i c).arbiter = s.arbiter ∧
    (s.enterFaulted i c).time = s.time ∧ (s.enterFaulted i c).memoryPort = s.memoryPort ∧ (s.enterFaulted i
    c).processorPort = s.processorPort ∧ (s.enterFaulted i c).freeCount = s.freeCount ∧ (s.enterFaulted i
    c).pending = s.pending := by
  unfold State.enterFaulted
  try dsimp only
  all_goals simp

@[simp] theorem State.completeAbort_frame (s : State) (i : StreamId) :
    (s.completeAbort i).anchorSel = s.anchorSel ∧ (s.completeAbort i).resetAsserted = s.resetAsserted ∧
    (s.completeAbort i).queue = s.queue ∧ (s.completeAbort i).policy = s.policy ∧ (s.completeAbort i).denial =
    s.denial ∧ (s.completeAbort i).capture = s.capture ∧ (s.completeAbort i).arbiter = s.arbiter ∧
    (s.completeAbort i).time = s.time ∧ (s.completeAbort i).memoryPort = s.memoryPort ∧ (s.completeAbort
    i).processorPort = s.processorPort ∧ (s.completeAbort i).freeCount = s.freeCount ∧ (s.completeAbort i).pending
    = s.pending := by
  unfold State.completeAbort
  try dsimp only
  repeat' split
  all_goals simp

@[simp] theorem State.abortFilled_frame (s : State) (i : StreamId) :
    (s.abortFilled i).anchorSel = s.anchorSel ∧ (s.abortFilled i).resetAsserted = s.resetAsserted ∧ (s.abortFilled
    i).queue = s.queue ∧ (s.abortFilled i).policy = s.policy ∧ (s.abortFilled i).denial = s.denial ∧
    (s.abortFilled i).capture = s.capture ∧ (s.abortFilled i).arbiter = s.arbiter ∧ (s.abortFilled i).time =
    s.time ∧ (s.abortFilled i).memoryPort = s.memoryPort ∧ (s.abortFilled i).processorPort = s.processorPort ∧
    (s.abortFilled i).freeCount = s.freeCount ∧ (s.abortFilled i).pending = s.pending := by
  unfold State.abortFilled
  try dsimp only
  repeat' split
  all_goals simp

@[simp] theorem State.abortWalker_frame (s : State) (i : StreamId) :
    (s.abortWalker i).anchorSel = s.anchorSel ∧ (s.abortWalker i).resetAsserted = s.resetAsserted ∧ (s.abortWalker
    i).queue = s.queue ∧ (s.abortWalker i).policy = s.policy ∧ (s.abortWalker i).denial = s.denial ∧
    (s.abortWalker i).capture = s.capture ∧ (s.abortWalker i).arbiter = s.arbiter ∧ (s.abortWalker i).time =
    s.time ∧ (s.abortWalker i).memoryPort = s.memoryPort ∧ (s.abortWalker i).processorPort = s.processorPort ∧
    (s.abortWalker i).freeCount = s.freeCount ∧ (s.abortWalker i).pending = s.pending := by
  unfold State.abortWalker
  try dsimp only
  repeat' split
  all_goals simp

@[simp] theorem State.startChain_frame (s : State) (i : StreamId) (a : Word) :
    (s.startChain i a).anchorSel = s.anchorSel ∧ (s.startChain i a).resetAsserted = s.resetAsserted ∧
    (s.startChain i a).queue = s.queue ∧ (s.startChain i a).policy = s.policy ∧ (s.startChain i a).denial =
    s.denial ∧ (s.startChain i a).capture = s.capture ∧ (s.startChain i a).eventStream = s.eventStream ∧
    (s.startChain i a).captureStream = s.captureStream ∧ (s.startChain i a).arbiter = s.arbiter ∧ (s.startChain i
    a).command = s.command ∧ (s.startChain i a).notices = s.notices ∧ (s.startChain i a).time = s.time ∧
    (s.startChain i a).memoryPort = s.memoryPort ∧ (s.startChain i a).processorPort = s.processorPort ∧
    (s.startChain i a).freeCount = s.freeCount ∧ (s.startChain i a).pending = s.pending := by
  unfold State.startChain
  try dsimp only
  all_goals simp

@[simp] theorem State.refetch_frame (s : State) (i : StreamId) :
    (s.refetch i).anchorSel = s.anchorSel ∧ (s.refetch i).resetAsserted = s.resetAsserted ∧ (s.refetch i).queue =
    s.queue ∧ (s.refetch i).policy = s.policy ∧ (s.refetch i).denial = s.denial ∧ (s.refetch i).capture =
    s.capture ∧ (s.refetch i).eventStream = s.eventStream ∧ (s.refetch i).captureStream = s.captureStream ∧
    (s.refetch i).arbiter = s.arbiter ∧ (s.refetch i).command = s.command ∧ (s.refetch i).notices = s.notices ∧
    (s.refetch i).time = s.time ∧ (s.refetch i).memoryPort = s.memoryPort ∧ (s.refetch i).processorPort =
    s.processorPort ∧ (s.refetch i).freeCount = s.freeCount ∧ (s.refetch i).pending = s.pending := by
  unfold State.refetch
  try dsimp only
  all_goals simp

@[simp] theorem State.enterFilling_frame (s : State) (i : StreamId) (c : DescriptorCopy) :
    (s.enterFilling i c).anchorSel = s.anchorSel ∧ (s.enterFilling i c).resetAsserted = s.resetAsserted ∧
    (s.enterFilling i c).queue = s.queue ∧ (s.enterFilling i c).policy = s.policy ∧ (s.enterFilling i c).denial =
    s.denial ∧ (s.enterFilling i c).capture = s.capture ∧ (s.enterFilling i c).eventStream = s.eventStream ∧
    (s.enterFilling i c).captureStream = s.captureStream ∧ (s.enterFilling i c).arbiter = s.arbiter ∧
    (s.enterFilling i c).command = s.command ∧ (s.enterFilling i c).notices = s.notices ∧ (s.enterFilling i
    c).time = s.time ∧ (s.enterFilling i c).memoryPort = s.memoryPort ∧ (s.enterFilling i c).processorPort =
    s.processorPort ∧ (s.enterFilling i c).freeCount = s.freeCount ∧ (s.enterFilling i c).pending = s.pending := by
  unfold State.enterFilling
  try dsimp only
  all_goals simp

@[simp] theorem State.enterWaiting_frame (s : State) (i : StreamId) :
    (s.enterWaiting i).anchorSel = s.anchorSel ∧ (s.enterWaiting i).resetAsserted = s.resetAsserted ∧
    (s.enterWaiting i).queue = s.queue ∧ (s.enterWaiting i).policy = s.policy ∧ (s.enterWaiting i).denial =
    s.denial ∧ (s.enterWaiting i).capture = s.capture ∧ (s.enterWaiting i).eventStream = s.eventStream ∧
    (s.enterWaiting i).captureStream = s.captureStream ∧ (s.enterWaiting i).arbiter = s.arbiter ∧ (s.enterWaiting
    i).time = s.time ∧ (s.enterWaiting i).memoryPort = s.memoryPort ∧ (s.enterWaiting i).processorPort =
    s.processorPort ∧ (s.enterWaiting i).freeCount = s.freeCount ∧ (s.enterWaiting i).pending = s.pending := by
  unfold State.enterWaiting
  try dsimp only
  all_goals simp

@[simp] theorem State.judgeDescriptor_frame (s : State) (i : StreamId) (a : MemResponse) :
    (s.judgeDescriptor i a).anchorSel = s.anchorSel ∧ (s.judgeDescriptor i a).resetAsserted = s.resetAsserted ∧
    (s.judgeDescriptor i a).queue = s.queue ∧ (s.judgeDescriptor i a).policy = s.policy ∧ (s.judgeDescriptor i
    a).denial = s.denial ∧ (s.judgeDescriptor i a).capture = s.capture ∧ (s.judgeDescriptor i a).arbiter =
    s.arbiter ∧ (s.judgeDescriptor i a).time = s.time ∧ (s.judgeDescriptor i a).memoryPort = s.memoryPort ∧
    (s.judgeDescriptor i a).processorPort = s.processorPort ∧ (s.judgeDescriptor i a).freeCount = s.freeCount ∧
    (s.judgeDescriptor i a).pending = s.pending := by
  unfold State.judgeDescriptor
  try dsimp only
  repeat' split
  all_goals simp

@[simp] theorem State.takeFetch_frame (s : State) (i : StreamId) (a : MemResponse) :
    (s.takeFetch i a).anchorSel = s.anchorSel ∧ (s.takeFetch i a).resetAsserted = s.resetAsserted ∧ (s.takeFetch i
    a).queue = s.queue ∧ (s.takeFetch i a).policy = s.policy ∧ (s.takeFetch i a).denial = s.denial ∧ (s.takeFetch
    i a).capture = s.capture ∧ (s.takeFetch i a).arbiter = s.arbiter ∧ (s.takeFetch i a).time = s.time ∧
    (s.takeFetch i a).memoryPort = s.memoryPort ∧ (s.takeFetch i a).processorPort = s.processorPort ∧ (s.takeFetch
    i a).freeCount = s.freeCount ∧ (s.takeFetch i a).pending = s.pending := by
  unfold State.takeFetch
  try dsimp only
  repeat' split
  all_goals simp

@[simp] theorem State.takeBurst_frame (s : State) (i : StreamId) (rs : List Record) (c : RespCode) :
    (s.takeBurst i rs c).anchorSel = s.anchorSel ∧ (s.takeBurst i rs c).resetAsserted = s.resetAsserted ∧
    (s.takeBurst i rs c).queue = s.queue ∧ (s.takeBurst i rs c).policy = s.policy ∧ (s.takeBurst i rs c).denial =
    s.denial ∧ (s.takeBurst i rs c).capture = s.capture ∧ (s.takeBurst i rs c).arbiter = s.arbiter ∧ (s.takeBurst
    i rs c).time = s.time ∧ (s.takeBurst i rs c).memoryPort = s.memoryPort ∧ (s.takeBurst i rs c).processorPort =
    s.processorPort ∧ (s.takeBurst i rs c).freeCount = s.freeCount ∧ (s.takeBurst i rs c).pending = s.pending := by
  unfold State.takeBurst
  try dsimp only
  repeat' split
  all_goals simp

@[simp] theorem State.followLink_frame (s : State) (i : StreamId) (a : Word) :
    (s.followLink i a).anchorSel = s.anchorSel ∧ (s.followLink i a).resetAsserted = s.resetAsserted ∧
    (s.followLink i a).queue = s.queue ∧ (s.followLink i a).policy = s.policy ∧ (s.followLink i a).denial =
    s.denial ∧ (s.followLink i a).capture = s.capture ∧ (s.followLink i a).eventStream = s.eventStream ∧
    (s.followLink i a).captureStream = s.captureStream ∧ (s.followLink i a).arbiter = s.arbiter ∧ (s.followLink i
    a).command = s.command ∧ (s.followLink i a).notices = s.notices ∧ (s.followLink i a).time = s.time ∧
    (s.followLink i a).memoryPort = s.memoryPort ∧ (s.followLink i a).processorPort = s.processorPort ∧
    (s.followLink i a).freeCount = s.freeCount ∧ (s.followLink i a).pending = s.pending := by
  unfold State.followLink
  try dsimp only
  all_goals simp

@[simp] theorem State.enterEnded_frame (s : State) (i : StreamId) :
    (s.enterEnded i).anchorSel = s.anchorSel ∧ (s.enterEnded i).resetAsserted = s.resetAsserted ∧ (s.enterEnded
    i).queue = s.queue ∧ (s.enterEnded i).policy = s.policy ∧ (s.enterEnded i).denial = s.denial ∧ (s.enterEnded
    i).capture = s.capture ∧ (s.enterEnded i).eventStream = s.eventStream ∧ (s.enterEnded i).captureStream =
    s.captureStream ∧ (s.enterEnded i).arbiter = s.arbiter ∧ (s.enterEnded i).command = s.command ∧ (s.enterEnded
    i).time = s.time ∧ (s.enterEnded i).memoryPort = s.memoryPort ∧ (s.enterEnded i).processorPort =
    s.processorPort ∧ (s.enterEnded i).freeCount = s.freeCount ∧ (s.enterEnded i).pending = s.pending := by
  unfold State.enterEnded
  try dsimp only
  all_goals simp

@[simp] theorem State.bufferClosed_frame (s : State) (i : StreamId) :
    (s.bufferClosed i).anchorSel = s.anchorSel ∧ (s.bufferClosed i).resetAsserted = s.resetAsserted ∧
    (s.bufferClosed i).queue = s.queue ∧ (s.bufferClosed i).policy = s.policy ∧ (s.bufferClosed i).denial =
    s.denial ∧ (s.bufferClosed i).capture = s.capture ∧ (s.bufferClosed i).eventStream = s.eventStream ∧
    (s.bufferClosed i).captureStream = s.captureStream ∧ (s.bufferClosed i).eventWalker = s.eventWalker ∧
    (s.bufferClosed i).captureWalker = s.captureWalker ∧ (s.bufferClosed i).arbiter = s.arbiter ∧ (s.bufferClosed
    i).command = s.command ∧ (s.bufferClosed i).time = s.time ∧ (s.bufferClosed i).memoryPort = s.memoryPort ∧
    (s.bufferClosed i).processorPort = s.processorPort ∧ (s.bufferClosed i).freeCount = s.freeCount ∧
    (s.bufferClosed i).pending = s.pending := by
  unfold State.bufferClosed
  try dsimp only
  all_goals simp

@[simp] theorem State.flushAtClose_frame (s : State) (i : StreamId) (b : Bool) :
    (s.flushAtClose i b).anchorSel = s.anchorSel ∧ (s.flushAtClose i b).resetAsserted = s.resetAsserted ∧
    (s.flushAtClose i b).queue = s.queue ∧ (s.flushAtClose i b).policy = s.policy ∧ (s.flushAtClose i b).denial =
    s.denial ∧ (s.flushAtClose i b).capture = s.capture ∧ (s.flushAtClose i b).eventStream = s.eventStream ∧
    (s.flushAtClose i b).captureStream = s.captureStream ∧ (s.flushAtClose i b).arbiter = s.arbiter ∧
    (s.flushAtClose i b).time = s.time ∧ (s.flushAtClose i b).memoryPort = s.memoryPort ∧ (s.flushAtClose i
    b).processorPort = s.processorPort ∧ (s.flushAtClose i b).freeCount = s.freeCount ∧ (s.flushAtClose i
    b).pending = s.pending := by
  unfold State.flushAtClose
  try dsimp only
  repeat' split
  all_goals simp

@[simp] theorem State.closeCompleted_frame (s : State) (i : StreamId) (c : DescriptorCopy) (r : RespCode) :
    (s.closeCompleted i c r).anchorSel = s.anchorSel ∧ (s.closeCompleted i c r).resetAsserted = s.resetAsserted ∧
    (s.closeCompleted i c r).queue = s.queue ∧ (s.closeCompleted i c r).policy = s.policy ∧ (s.closeCompleted i c
    r).denial = s.denial ∧ (s.closeCompleted i c r).capture = s.capture ∧ (s.closeCompleted i c r).arbiter =
    s.arbiter ∧ (s.closeCompleted i c r).time = s.time ∧ (s.closeCompleted i c r).memoryPort = s.memoryPort ∧
    (s.closeCompleted i c r).processorPort = s.processorPort ∧ (s.closeCompleted i c r).freeCount = s.freeCount ∧
    (s.closeCompleted i c r).pending = s.pending := by
  unfold State.closeCompleted
  try dsimp only
  repeat' split
  all_goals simp

@[simp] theorem State.abortCloseCompleted_frame (s : State) (i : StreamId) (r : RespCode) :
    (s.abortCloseCompleted i r).anchorSel = s.anchorSel ∧ (s.abortCloseCompleted i r).resetAsserted =
    s.resetAsserted ∧ (s.abortCloseCompleted i r).queue = s.queue ∧ (s.abortCloseCompleted i r).policy = s.policy
    ∧ (s.abortCloseCompleted i r).denial = s.denial ∧ (s.abortCloseCompleted i r).capture = s.capture ∧
    (s.abortCloseCompleted i r).arbiter = s.arbiter ∧ (s.abortCloseCompleted i r).time = s.time ∧
    (s.abortCloseCompleted i r).memoryPort = s.memoryPort ∧ (s.abortCloseCompleted i r).processorPort =
    s.processorPort ∧ (s.abortCloseCompleted i r).freeCount = s.freeCount ∧ (s.abortCloseCompleted i r).pending =
    s.pending := by
  unfold State.abortCloseCompleted
  try dsimp only
  repeat' split
  all_goals simp

@[simp] theorem State.takeStatus_frame (s : State) (i : StreamId) (r : RespCode) :
    (s.takeStatus i r).anchorSel = s.anchorSel ∧ (s.takeStatus i r).resetAsserted = s.resetAsserted ∧
    (s.takeStatus i r).queue = s.queue ∧ (s.takeStatus i r).policy = s.policy ∧ (s.takeStatus i r).denial =
    s.denial ∧ (s.takeStatus i r).capture = s.capture ∧ (s.takeStatus i r).arbiter = s.arbiter ∧ (s.takeStatus i
    r).time = s.time ∧ (s.takeStatus i r).memoryPort = s.memoryPort ∧ (s.takeStatus i r).processorPort =
    s.processorPort ∧ (s.takeStatus i r).freeCount = s.freeCount ∧ (s.takeStatus i r).pending = s.pending := by
  unfold State.takeStatus
  try dsimp only
  repeat' split
  all_goals simp

@[simp] theorem State.offerToWalker_frame (s : State) (n : Nat) (c : WriteCompletion) (i : StreamId) :
    (s.offerToWalker n c i).anchorSel = s.anchorSel ∧ (s.offerToWalker n c i).resetAsserted = s.resetAsserted ∧
    (s.offerToWalker n c i).queue = s.queue ∧ (s.offerToWalker n c i).policy = s.policy ∧ (s.offerToWalker n c
    i).denial = s.denial ∧ (s.offerToWalker n c i).capture = s.capture ∧ (s.offerToWalker n c i).eventStream =
    s.eventStream ∧ (s.offerToWalker n c i).captureStream = s.captureStream ∧ (s.offerToWalker n c i).arbiter =
    s.arbiter ∧ (s.offerToWalker n c i).command = s.command ∧ (s.offerToWalker n c i).notices = s.notices ∧
    (s.offerToWalker n c i).time = s.time ∧ (s.offerToWalker n c i).memoryPort = s.memoryPort ∧ (s.offerToWalker n
    c i).processorPort = s.processorPort ∧ (s.offerToWalker n c i).freeCount = s.freeCount ∧ (s.offerToWalker n c
    i).pending = s.pending := by
  unfold State.offerToWalker
  try dsimp only
  repeat' split
  all_goals simp

@[simp] theorem State.offerToWalkers_frame (s : State) (n : Nat) (c : WriteCompletion) :
    (State.offerToWalkers n c s).anchorSel = s.anchorSel ∧ (State.offerToWalkers n c s).resetAsserted =
    s.resetAsserted ∧ (State.offerToWalkers n c s).queue = s.queue ∧ (State.offerToWalkers n c s).policy =
    s.policy ∧ (State.offerToWalkers n c s).denial = s.denial ∧ (State.offerToWalkers n c s).capture = s.capture ∧
    (State.offerToWalkers n c s).eventStream = s.eventStream ∧ (State.offerToWalkers n c s).captureStream =
    s.captureStream ∧ (State.offerToWalkers n c s).arbiter = s.arbiter ∧ (State.offerToWalkers n c s).command =
    s.command ∧ (State.offerToWalkers n c s).notices = s.notices ∧ (State.offerToWalkers n c s).time = s.time ∧
    (State.offerToWalkers n c s).memoryPort = s.memoryPort ∧ (State.offerToWalkers n c s).processorPort =
    s.processorPort ∧ (State.offerToWalkers n c s).freeCount = s.freeCount ∧ (State.offerToWalkers n c s).pending
    = s.pending := by
  unfold State.offerToWalkers
  try dsimp only
  all_goals simp

@[simp] theorem State.ageWalker_frame (s : State) (i : StreamId) :
    (s.ageWalker i).anchorSel = s.anchorSel ∧ (s.ageWalker i).resetAsserted = s.resetAsserted ∧ (s.ageWalker
    i).queue = s.queue ∧ (s.ageWalker i).policy = s.policy ∧ (s.ageWalker i).denial = s.denial ∧ (s.ageWalker
    i).capture = s.capture ∧ (s.ageWalker i).eventStream = s.eventStream ∧ (s.ageWalker i).captureStream =
    s.captureStream ∧ (s.ageWalker i).arbiter = s.arbiter ∧ (s.ageWalker i).command = s.command ∧ (s.ageWalker
    i).report = s.report ∧ (s.ageWalker i).notices = s.notices ∧ (s.ageWalker i).time = s.time ∧ (s.ageWalker
    i).memoryPort = s.memoryPort ∧ (s.ageWalker i).processorPort = s.processorPort ∧ (s.ageWalker i).freeCount =
    s.freeCount ∧ (s.ageWalker i).pending = s.pending := by
  unfold State.ageWalker
  try dsimp only
  repeat' split
  all_goals simp

@[simp] theorem State.resetStream_frame (s : State) (i : StreamId) :
    (s.resetStream i).anchorSel = s.anchorSel ∧ (s.resetStream i).resetAsserted = s.resetAsserted ∧ (s.resetStream
    i).queue = s.queue ∧ (s.resetStream i).policy = s.policy ∧ (s.resetStream i).denial = s.denial ∧
    (s.resetStream i).capture = s.capture ∧ (s.resetStream i).eventWalker = s.eventWalker ∧ (s.resetStream
    i).captureWalker = s.captureWalker ∧ (s.resetStream i).arbiter = s.arbiter ∧ (s.resetStream i).command =
    s.command ∧ (s.resetStream i).notices = s.notices ∧ (s.resetStream i).time = s.time ∧ (s.resetStream
    i).memoryPort = s.memoryPort ∧ (s.resetStream i).processorPort = s.processorPort ∧ (s.resetStream i).freeCount
    = s.freeCount ∧ (s.resetStream i).pending = s.pending := by
  unfold State.resetStream
  try dsimp only
  all_goals simp

@[simp] theorem State.resetWalker_frame (s : State) (i : StreamId) :
    (s.resetWalker i).anchorSel = s.anchorSel ∧ (s.resetWalker i).resetAsserted = s.resetAsserted ∧ (s.resetWalker
    i).queue = s.queue ∧ (s.resetWalker i).policy = s.policy ∧ (s.resetWalker i).denial = s.denial ∧
    (s.resetWalker i).capture = s.capture ∧ (s.resetWalker i).eventStream = s.eventStream ∧ (s.resetWalker
    i).captureStream = s.captureStream ∧ (s.resetWalker i).arbiter = s.arbiter ∧ (s.resetWalker i).command =
    s.command ∧ (s.resetWalker i).notices = s.notices ∧ (s.resetWalker i).time = s.time ∧ (s.resetWalker
    i).memoryPort = s.memoryPort ∧ (s.resetWalker i).processorPort = s.processorPort ∧ (s.resetWalker i).freeCount
    = s.freeCount ∧ (s.resetWalker i).pending = s.pending := by
  unfold State.resetWalker
  try dsimp only
  all_goals simp

@[simp] theorem State.takeArguments_frame (s : State) (c : WriteCompletion) :
    (s.takeArguments c).anchorSel = s.anchorSel ∧ (s.takeArguments c).resetAsserted = s.resetAsserted ∧
    (s.takeArguments c).queue = s.queue ∧ (s.takeArguments c).policy = s.policy ∧ (s.takeArguments c).denial =
    s.denial ∧ (s.takeArguments c).capture = s.capture ∧ (s.takeArguments c).eventStream = s.eventStream ∧
    (s.takeArguments c).captureStream = s.captureStream ∧ (s.takeArguments c).eventWalker = s.eventWalker ∧
    (s.takeArguments c).captureWalker = s.captureWalker ∧ (s.takeArguments c).arbiter = s.arbiter ∧
    (s.takeArguments c).report = s.report ∧ (s.takeArguments c).notices = s.notices ∧ (s.takeArguments c).time =
    s.time ∧ (s.takeArguments c).memoryPort = s.memoryPort ∧ (s.takeArguments c).processorPort = s.processorPort ∧
    (s.takeArguments c).freeCount = s.freeCount ∧ (s.takeArguments c).pending = s.pending := by
  unfold State.takeArguments
  try dsimp only
  repeat' split
  all_goals simp

@[simp] theorem State.memoryFault_frame (s : State) (r : Request) :
    (s.memoryFault r).anchorSel = s.anchorSel ∧ (s.memoryFault r).resetAsserted = s.resetAsserted ∧ (s.memoryFault
    r).queue = s.queue ∧ (s.memoryFault r).policy = s.policy ∧ (s.memoryFault r).denial = s.denial ∧
    (s.memoryFault r).capture = s.capture ∧ (s.memoryFault r).eventWalker = s.eventWalker ∧ (s.memoryFault
    r).captureWalker = s.captureWalker ∧ (s.memoryFault r).arbiter = s.arbiter ∧ (s.memoryFault r).command =
    s.command ∧ (s.memoryFault r).time = s.time ∧ (s.memoryFault r).memoryPort = s.memoryPort ∧ (s.memoryFault
    r).processorPort = s.processorPort ∧ (s.memoryFault r).freeCount = s.freeCount ∧ (s.memoryFault r).pending =
    s.pending := by
  unfold State.memoryFault
  try dsimp only
  all_goals simp

@[simp] theorem State.clearNotices_frame (s : State) (m : BitVec 13) :
    (s.clearNotices m).anchorSel = s.anchorSel ∧ (s.clearNotices m).resetAsserted = s.resetAsserted ∧
    (s.clearNotices m).queue = s.queue ∧ (s.clearNotices m).policy = s.policy ∧ (s.clearNotices m).denial =
    s.denial ∧ (s.clearNotices m).capture = s.capture ∧ (s.clearNotices m).eventStream = s.eventStream ∧
    (s.clearNotices m).captureStream = s.captureStream ∧ (s.clearNotices m).eventWalker = s.eventWalker ∧
    (s.clearNotices m).captureWalker = s.captureWalker ∧ (s.clearNotices m).arbiter = s.arbiter ∧ (s.clearNotices
    m).command = s.command ∧ (s.clearNotices m).time = s.time ∧ (s.clearNotices m).memoryPort = s.memoryPort ∧
    (s.clearNotices m).processorPort = s.processorPort ∧ (s.clearNotices m).freeCount = s.freeCount ∧
    (s.clearNotices m).pending = s.pending := by
  unfold State.clearNotices
  try dsimp only
  all_goals simp

@[simp] theorem State.setEnable_frame (s : State) (m : BitVec 13) :
    (s.setEnable m).anchorSel = s.anchorSel ∧ (s.setEnable m).resetAsserted = s.resetAsserted ∧ (s.setEnable
    m).queue = s.queue ∧ (s.setEnable m).policy = s.policy ∧ (s.setEnable m).denial = s.denial ∧ (s.setEnable
    m).capture = s.capture ∧ (s.setEnable m).eventStream = s.eventStream ∧ (s.setEnable m).captureStream =
    s.captureStream ∧ (s.setEnable m).eventWalker = s.eventWalker ∧ (s.setEnable m).captureWalker =
    s.captureWalker ∧ (s.setEnable m).arbiter = s.arbiter ∧ (s.setEnable m).command = s.command ∧ (s.setEnable
    m).time = s.time ∧ (s.setEnable m).memoryPort = s.memoryPort ∧ (s.setEnable m).processorPort = s.processorPort
    ∧ (s.setEnable m).freeCount = s.freeCount ∧ (s.setEnable m).pending = s.pending := by
  unfold State.setEnable
  try dsimp only
  all_goals simp

@[simp] theorem State.commitPolicy_frame (s : State) (p : Policy) :
    (s.commitPolicy p).anchorSel = s.anchorSel ∧ (s.commitPolicy p).resetAsserted = s.resetAsserted ∧
    (s.commitPolicy p).queue = s.queue ∧ (s.commitPolicy p).capture = s.capture ∧ (s.commitPolicy p).eventWalker =
    s.eventWalker ∧ (s.commitPolicy p).captureWalker = s.captureWalker ∧ (s.commitPolicy p).arbiter = s.arbiter ∧
    (s.commitPolicy p).command = s.command ∧ (s.commitPolicy p).time = s.time ∧ (s.commitPolicy p).memoryPort =
    s.memoryPort ∧ (s.commitPolicy p).processorPort = s.processorPort ∧ (s.commitPolicy p).freeCount = s.freeCount
    ∧ (s.commitPolicy p).pending = s.pending := by
  unfold State.commitPolicy
  try dsimp only
  all_goals simp

@[simp] theorem State.resetRecording_frame (s : State) :
    (s.resetRecording).anchorSel = s.anchorSel ∧ (s.resetRecording).resetAsserted = s.resetAsserted ∧
    (s.resetRecording).queue = s.queue ∧ (s.resetRecording).policy = s.policy ∧ (s.resetRecording).denial =
    s.denial ∧ (s.resetRecording).command = s.command ∧ (s.resetRecording).notices = s.notices ∧
    (s.resetRecording).time = s.time ∧ (s.resetRecording).memoryPort = s.memoryPort ∧
    (s.resetRecording).processorPort = s.processorPort ∧ (s.resetRecording).freeCount = s.freeCount ∧
    (s.resetRecording).pending = s.pending := by
  unfold State.resetRecording
  try dsimp only
  all_goals simp

@[simp] theorem State.setInFlight_frame (s : State) (i : StreamId) (t : WalkerTx) :
    (s.setInFlight i t).anchorSel = s.anchorSel ∧ (s.setInFlight i t).resetAsserted = s.resetAsserted ∧
    (s.setInFlight i t).queue = s.queue ∧ (s.setInFlight i t).policy = s.policy ∧ (s.setInFlight i t).denial =
    s.denial ∧ (s.setInFlight i t).capture = s.capture ∧ (s.setInFlight i t).eventStream = s.eventStream ∧
    (s.setInFlight i t).captureStream = s.captureStream ∧ (s.setInFlight i t).arbiter = s.arbiter ∧ (s.setInFlight
    i t).command = s.command ∧ (s.setInFlight i t).report = s.report ∧ (s.setInFlight i t).notices = s.notices ∧
    (s.setInFlight i t).time = s.time ∧ (s.setInFlight i t).memoryPort = s.memoryPort ∧ (s.setInFlight i
    t).processorPort = s.processorPort ∧ (s.setInFlight i t).freeCount = s.freeCount ∧ (s.setInFlight i t).pending
    = s.pending := by
  unfold State.setInFlight
  try dsimp only
  all_goals simp

@[simp] theorem State.grantWalker_frame (s : State) (i : StreamId) :
    (s.grantWalker i).anchorSel = s.anchorSel ∧ (s.grantWalker i).resetAsserted = s.resetAsserted ∧ (s.grantWalker
    i).queue = s.queue ∧ (s.grantWalker i).policy = s.policy ∧ (s.grantWalker i).denial = s.denial ∧
    (s.grantWalker i).capture = s.capture ∧ (s.grantWalker i).command = s.command ∧ (s.grantWalker i).report =
    s.report ∧ (s.grantWalker i).notices = s.notices ∧ (s.grantWalker i).time = s.time ∧ (s.grantWalker
    i).processorPort = s.processorPort ∧ (s.grantWalker i).freeCount = s.freeCount ∧ (s.grantWalker i).pending =
    s.pending := by
  unfold State.grantWalker State.grantBurst
  try dsimp only
  repeat' split
  all_goals simp

@[simp] theorem State.grantPass_frame (s : State) :
    (s.grantPass).anchorSel = s.anchorSel ∧ (s.grantPass).resetAsserted = s.resetAsserted ∧ (s.grantPass).policy =
    s.policy ∧ (s.grantPass).denial = s.denial ∧ (s.grantPass).capture = s.capture ∧ (s.grantPass).eventStream =
    s.eventStream ∧ (s.grantPass).captureStream = s.captureStream ∧ (s.grantPass).eventWalker = s.eventWalker ∧
    (s.grantPass).captureWalker = s.captureWalker ∧ (s.grantPass).command = s.command ∧ (s.grantPass).report =
    s.report ∧ (s.grantPass).notices = s.notices ∧ (s.grantPass).time = s.time ∧ (s.grantPass).processorPort =
    s.processorPort ∧ (s.grantPass).freeCount = s.freeCount ∧ (s.grantPass).pending = s.pending := by
  unfold State.grantPass
  try dsimp only
  repeat' split
  all_goals simp

@[simp] theorem State.grantReport_frame (s : State) :
    (s.grantReport).anchorSel = s.anchorSel ∧ (s.grantReport).resetAsserted = s.resetAsserted ∧
    (s.grantReport).queue = s.queue ∧ (s.grantReport).policy = s.policy ∧ (s.grantReport).denial = s.denial ∧
    (s.grantReport).capture = s.capture ∧ (s.grantReport).eventStream = s.eventStream ∧
    (s.grantReport).captureStream = s.captureStream ∧ (s.grantReport).eventWalker = s.eventWalker ∧
    (s.grantReport).captureWalker = s.captureWalker ∧ (s.grantReport).command = s.command ∧
    (s.grantReport).notices = s.notices ∧ (s.grantReport).time = s.time ∧ (s.grantReport).processorPort =
    s.processorPort ∧ (s.grantReport).freeCount = s.freeCount ∧ (s.grantReport).pending = s.pending := by
  unfold State.grantReport
  try dsimp only
  repeat' split
  all_goals simp

@[simp] theorem State.grantCommand_frame (s : State) :
    (s.grantCommand).anchorSel = s.anchorSel ∧ (s.grantCommand).resetAsserted = s.resetAsserted ∧
    (s.grantCommand).queue = s.queue ∧ (s.grantCommand).policy = s.policy ∧ (s.grantCommand).denial = s.denial ∧
    (s.grantCommand).capture = s.capture ∧ (s.grantCommand).eventStream = s.eventStream ∧
    (s.grantCommand).captureStream = s.captureStream ∧ (s.grantCommand).eventWalker = s.eventWalker ∧
    (s.grantCommand).captureWalker = s.captureWalker ∧ (s.grantCommand).report = s.report ∧
    (s.grantCommand).notices = s.notices ∧ (s.grantCommand).time = s.time ∧ (s.grantCommand).processorPort =
    s.processorPort ∧ (s.grantCommand).freeCount = s.freeCount ∧ (s.grantCommand).pending = s.pending := by
  unfold State.grantCommand
  try dsimp only
  repeat' split
  all_goals simp

@[simp] theorem State.enqueue_frame (s : State) (r : Request) (d : DecisionRecord) :
    (s.enqueue r d).anchorSel = s.anchorSel ∧ (s.enqueue r d).resetAsserted = s.resetAsserted ∧ (s.enqueue r
    d).policy = s.policy ∧ (s.enqueue r d).denial = s.denial ∧ (s.enqueue r d).capture = s.capture ∧ (s.enqueue r
    d).eventStream = s.eventStream ∧ (s.enqueue r d).captureStream = s.captureStream ∧ (s.enqueue r d).eventWalker
    = s.eventWalker ∧ (s.enqueue r d).captureWalker = s.captureWalker ∧ (s.enqueue r d).arbiter = s.arbiter ∧
    (s.enqueue r d).command = s.command ∧ (s.enqueue r d).report = s.report ∧ (s.enqueue r d).notices = s.notices
    ∧ (s.enqueue r d).time = s.time ∧ (s.enqueue r d).memoryPort = s.memoryPort ∧ (s.enqueue r d).processorPort =
    s.processorPort ∧ (s.enqueue r d).freeCount = s.freeCount ∧ (s.enqueue r d).pending = s.pending := by
  unfold State.enqueue
  try dsimp only
  all_goals simp

@[simp] theorem State.takeDenial_frame (s : State) (i : DenialInfo) (t : DenialTerms) :
    (State.takeDenial i t s).anchorSel = s.anchorSel ∧ (State.takeDenial i t s).resetAsserted = s.resetAsserted ∧
    (State.takeDenial i t s).queue = s.queue ∧ (State.takeDenial i t s).eventWalker = s.eventWalker ∧
    (State.takeDenial i t s).captureWalker = s.captureWalker ∧ (State.takeDenial i t s).arbiter = s.arbiter ∧
    (State.takeDenial i t s).command = s.command ∧ (State.takeDenial i t s).time = s.time ∧ (State.takeDenial i t
    s).memoryPort = s.memoryPort ∧ (State.takeDenial i t s).processorPort = s.processorPort ∧ (State.takeDenial i
    t s).pending = s.pending := by
  unfold State.takeDenial inFreeOrder inOrder
  try dsimp only
  repeat' split
  all_goals simp

@[simp] theorem State.takeEligible_frame (s : State) (r : Request) (d : DecisionRecord) (e : Eligibility) (k : Nat) :
    (s.takeEligible r d e k).anchorSel = s.anchorSel ∧ (s.takeEligible r d e k).resetAsserted = s.resetAsserted ∧
    (s.takeEligible r d e k).queue = s.queue ∧ (s.takeEligible r d e k).denial = s.denial ∧ (s.takeEligible r d e
    k).eventWalker = s.eventWalker ∧ (s.takeEligible r d e k).captureWalker = s.captureWalker ∧ (s.takeEligible r
    d e k).arbiter = s.arbiter ∧ (s.takeEligible r d e k).command = s.command ∧ (s.takeEligible r d e k).time =
    s.time ∧ (s.takeEligible r d e k).memoryPort = s.memoryPort ∧ (s.takeEligible r d e k).processorPort =
    s.processorPort ∧ (s.takeEligible r d e k).freeCount = s.freeCount ∧ (s.takeEligible r d e k).pending =
    s.pending := by
  unfold State.takeEligible
  try dsimp only
  all_goals simp

@[simp] theorem State.publish_frame (s : State) (c : Option (BitVec 13)) :
    (s.publish c).anchorSel = s.anchorSel ∧ (s.publish c).resetAsserted = s.resetAsserted ∧ (s.publish c).queue =
    s.queue ∧ (s.publish c).policy = s.policy ∧ (s.publish c).denial = s.denial ∧ (s.publish c).capture =
    s.capture ∧ (s.publish c).eventStream = s.eventStream ∧ (s.publish c).captureStream = s.captureStream ∧
    (s.publish c).eventWalker = s.eventWalker ∧ (s.publish c).captureWalker = s.captureWalker ∧ (s.publish
    c).arbiter = s.arbiter ∧ (s.publish c).command = s.command ∧ (s.publish c).report = s.report ∧ (s.publish
    c).time = s.time ∧ (s.publish c).memoryPort = s.memoryPort ∧ (s.publish c).processorPort = s.processorPort ∧
    (s.publish c).freeCount = s.freeCount ∧ (s.publish c).pending = s.pending := by
  unfold State.publish
  try dsimp only
  repeat' split
  all_goals simp

@[simp] theorem State.reportFault_frame (s : State) :
    (s.reportFault).anchorSel = s.anchorSel ∧ (s.reportFault).resetAsserted = s.resetAsserted ∧
    (s.reportFault).queue = s.queue ∧ (s.reportFault).policy = s.policy ∧ (s.reportFault).denial = s.denial ∧
    (s.reportFault).capture = s.capture ∧ (s.reportFault).eventStream = s.eventStream ∧
    (s.reportFault).captureStream = s.captureStream ∧ (s.reportFault).eventWalker = s.eventWalker ∧
    (s.reportFault).captureWalker = s.captureWalker ∧ (s.reportFault).arbiter = s.arbiter ∧
    (s.reportFault).command = s.command ∧ (s.reportFault).notices = s.notices ∧ (s.reportFault).time = s.time ∧
    (s.reportFault).memoryPort = s.memoryPort ∧ (s.reportFault).processorPort = s.processorPort ∧
    (s.reportFault).freeCount = s.freeCount ∧ (s.reportFault).pending = s.pending := by
  unfold State.reportFault
  try dsimp only
  all_goals simp

@[simp] theorem State.endLoad_frame (s : State) (g : Staged) (r : Result) (f : Nat) :
    (s.endLoad g r f).anchorSel = s.anchorSel ∧ (s.endLoad g r f).resetAsserted = s.resetAsserted ∧ (s.endLoad g r
    f).queue = s.queue ∧ (s.endLoad g r f).denial = s.denial ∧ (s.endLoad g r f).capture = s.capture ∧ (s.endLoad
    g r f).eventStream = s.eventStream ∧ (s.endLoad g r f).captureStream = s.captureStream ∧ (s.endLoad g r
    f).eventWalker = s.eventWalker ∧ (s.endLoad g r f).captureWalker = s.captureWalker ∧ (s.endLoad g r f).arbiter
    = s.arbiter ∧ (s.endLoad g r f).time = s.time ∧ (s.endLoad g r f).memoryPort = s.memoryPort ∧ (s.endLoad g r
    f).processorPort = s.processorPort ∧ (s.endLoad g r f).freeCount = s.freeCount ∧ (s.endLoad g r f).pending =
    s.pending := by
  unfold State.endLoad
  try dsimp only
  all_goals simp

@[simp] theorem State.takeHeader_frame (s : State) (l : Loader) (ws : List Word) :
    (s.takeHeader l ws).anchorSel = s.anchorSel ∧ (s.takeHeader l ws).resetAsserted = s.resetAsserted ∧
    (s.takeHeader l ws).queue = s.queue ∧ (s.takeHeader l ws).denial = s.denial ∧ (s.takeHeader l ws).capture =
    s.capture ∧ (s.takeHeader l ws).eventStream = s.eventStream ∧ (s.takeHeader l ws).captureStream =
    s.captureStream ∧ (s.takeHeader l ws).eventWalker = s.eventWalker ∧ (s.takeHeader l ws).captureWalker =
    s.captureWalker ∧ (s.takeHeader l ws).arbiter = s.arbiter ∧ (s.takeHeader l ws).time = s.time ∧ (s.takeHeader
    l ws).memoryPort = s.memoryPort ∧ (s.takeHeader l ws).processorPort = s.processorPort ∧ (s.takeHeader l
    ws).freeCount = s.freeCount ∧ (s.takeHeader l ws).pending = s.pending := by
  unfold State.takeHeader
  try dsimp only
  repeat' split
  all_goals simp

@[simp] theorem State.takeEntries_frame (s : State) (l : Loader) (p : LoadedPart) (ws : List Word) :
    (s.takeEntries l p ws).anchorSel = s.anchorSel ∧ (s.takeEntries l p ws).resetAsserted = s.resetAsserted ∧
    (s.takeEntries l p ws).queue = s.queue ∧ (s.takeEntries l p ws).denial = s.denial ∧ (s.takeEntries l p
    ws).capture = s.capture ∧ (s.takeEntries l p ws).eventStream = s.eventStream ∧ (s.takeEntries l p
    ws).captureStream = s.captureStream ∧ (s.takeEntries l p ws).eventWalker = s.eventWalker ∧ (s.takeEntries l p
    ws).captureWalker = s.captureWalker ∧ (s.takeEntries l p ws).arbiter = s.arbiter ∧ (s.takeEntries l p ws).time
    = s.time ∧ (s.takeEntries l p ws).memoryPort = s.memoryPort ∧ (s.takeEntries l p ws).processorPort =
    s.processorPort ∧ (s.takeEntries l p ws).freeCount = s.freeCount ∧ (s.takeEntries l p ws).pending = s.pending := by
  unfold State.takeEntries
  try dsimp only
  repeat' split
  all_goals simp

@[simp] theorem State.advance_frame (s : State) :
    (s.advance).anchorSel = s.anchorSel ∧ (s.advance).resetAsserted = s.resetAsserted ∧ (s.advance).queue =
    s.queue ∧ (s.advance).policy = s.policy ∧ (s.advance).denial = s.denial ∧ (s.advance).arbiter = s.arbiter ∧
    (s.advance).command = s.command ∧ (s.advance).memoryPort = s.memoryPort ∧ (s.advance).processorPort =
    s.processorPort ∧ (s.advance).freeCount = s.freeCount ∧ (s.advance).pending = s.pending := by
  unfold State.advance
  try dsimp only
  all_goals simp

end Sys2Proof.Machine
end

