-- ==== Sys2Proof/Laws/Settle.lean ====
section
/-! SUPPORT. What `settle`, the judgement that ends every event, can do: nothing to a settled state, and it leaves a
settled state. -/

namespace Sys2Proof.Machine

/-- The state is settled exactly when each walker is. -/
theorem State.settled_iff (s : State) :
    s.settled = true ↔ ∀ i, (s.walker i).settled (s.stream i).fifo (s.lingerSetting i) = true := by
  constructor
  · intro h i
    simp only [State.settled, Bool.and_eq_true] at h
    cases i
    · exact h.1
    · exact h.2
  · intro h
    simp only [State.settled, Bool.and_eq_true]
    exact ⟨h .event, h .capture⟩

/-- Settledness depends on the walkers, the FIFOs and the linger settings only. -/
theorem State.settled_congr {s t : State} (h1 : t.eventWalker = s.eventWalker) (h2 : t.captureWalker = s.captureWalker)
    (h3 : t.eventStream.fifo = s.eventStream.fifo) (h4 : t.captureStream.fifo = s.captureStream.fifo)
    (h5 : t.time.eventLinger = s.time.eventLinger) (h6 : t.time.captureLinger = s.time.captureLinger) :
    t.settled = s.settled := by
  simp only [State.settled, h1, h2, h3, h4, h5, h6]

/-- A walker whose conditions do not hold is left as it stands. -/
theorem State.settleWalker_of_settled {s : State} {i : StreamId}
    (h : (s.walker i).settled (s.stream i).fifo (s.lingerSetting i) = true) : s.settleWalker i = s := by
  simp only [Walker.settled, Bool.not_eq_true', Bool.and_eq_false_iff, Bool.or_eq_false_iff] at h
  have hf : s.settleFlush i = s := by
    unfold State.settleFlush
    rcases h with h | h <;> simp [h]
  unfold State.settleWalker
  simp only [hf]
  rcases h with h | ⟨⟨h1, h2⟩, h3⟩
  · simp [State.closeOpen, State.settleClose, h]
  · simp [State.closeOpen, State.settleClose, h1, h2, h3]

/-- `settle` leaves a settled state as it stands. -/
theorem State.settle_of_settled {s : State} (h : s.settled = true) : s.settle = s := by
  have hi := (State.settled_iff s).1 h
  unfold State.settle
  rw [State.settleWalker_of_settled (hi .event), State.settleWalker_of_settled (hi .capture)]

@[simp] theorem State.walker_markDirtyIf (s : State) (b : Bool) (c : Section) (i : StreamId) :
    (s.markDirtyIf b c).walker i = s.walker i := by
  cases i <;> simp [State.walker]

@[simp] theorem State.stream_markDirtyIf (s : State) (b : Bool) (c : Section) (i : StreamId) :
    (s.markDirtyIf b c).stream i = s.stream i := by
  cases i <;> simp [State.stream]

@[simp] theorem State.walker_moveWalker (s : State) (i j : StreamId) (w : Walker) :
    (s.moveWalker i w).walker j = if j = i then w else s.walker j := by
  simp [State.moveWalker]

@[simp] theorem State.stream_moveWalker (s : State) (i j : StreamId) (w : Walker) :
    (s.moveWalker i w).stream j = s.stream j := by
  simp [State.moveWalker]

@[simp] theorem State.walker_finish (s : State) (w : Option StreamId) (r : Result) (f : Nat) (i : StreamId) :
    (s.finish w r f).walker i = s.walker i := by
  cases i <;> simp [State.walker]

@[simp] theorem State.stream_finish (s : State) (w : Option StreamId) (r : Result) (f : Nat) (i : StreamId) :
    (s.finish w r f).stream i = s.stream i := by
  cases i <;> simp [State.stream]

@[simp] theorem State.walker_drawn (s : State) (k : Nat) (i : StreamId) : (s.drawn k).walker i = s.walker i := by
  cases i <;> rfl

@[simp] theorem State.stream_drawn (s : State) (k : Nat) (i : StreamId) : (s.drawn k).stream i = s.stream i := by
  cases i <;> rfl

@[simp] theorem State.stream_settleWalker (s : State) (i j : StreamId) : (s.settleWalker i).stream j = s.stream j := by
  cases j <;> simp [State.stream]

@[simp] theorem State.lingerSetting_settleWalker (s : State) (i j : StreamId) :
    (s.settleWalker i).lingerSetting j = s.lingerSetting j := by
  cases j <;> simp [State.lingerSetting]

/-- The linger setting depends on the time base only. -/
theorem State.lingerSetting_congr {s t : State} (h : t.time = s.time) (i : StreamId) :
    t.lingerSetting i = s.lingerSetting i := by
  cases i <;> simp [State.lingerSetting, h]

/-- The end of a flush clears the flush count and touches no walker otherwise. -/
theorem State.walker_endFlush (s : State) (i j : StreamId) (r : Result) :
    (s.endFlush i r).walker j = if j = i then { s.walker i with flushCount := none } else s.walker j := by
  simp [State.endFlush]

/-- Judging one walker leaves the other as it stands. -/
theorem State.settleWalker_other (s : State) {i j : StreamId} (h : j ≠ i) : (s.settleWalker i).walker j = s.walker j := by
  unfold State.settleWalker State.settleFlush State.settleClose State.closeBuffer
  dsimp only
  repeat' split
  all_goals simp [State.walker_endFlush, h]

/-- A walker that has just been judged is settled: it is closing, or no condition holds. -/
theorem State.settleClose_settled (s : State) (i : StreamId) (b : Bool) :
    ((s.settleClose i b).walker i).settled (s.stream i).fifo (s.lingerSetting i) = true := by
  unfold State.settleClose
  dsimp only
  split
  · simp_all [Walker.settled]
  · split
    · simp [State.closeBuffer, Walker.settled, Walker.atRest]
    · split
      · simp [State.closeBuffer, Walker.settled, Walker.atRest]
      · split
        · simp [State.closeBuffer, Walker.settled, Walker.atRest]
        · simp_all [Walker.settled]

/-- Each walker is settled once judged. -/
theorem State.settleWalker_settled (s : State) (i : StreamId) :
    ((s.settleWalker i).walker i).settled (s.stream i).fifo (s.lingerSetting i) = true := by
  have hs : (s.settleFlush i).stream i = s.stream i := by cases i <;> simp [State.stream]
  have hl : (s.settleFlush i).lingerSetting i = s.lingerSetting i := State.lingerSetting_congr (by simp) i
  have hd : ((s.settleFlush i).drawn 1).lingerSetting i = s.lingerSetting i := State.lingerSetting_congr (by simp) i
  unfold State.settleWalker
  dsimp only
  split
  · have := State.settleClose_settled ((s.settleFlush i).drawn 1) i (s.settleFlush i).choice
    rwa [hd, State.stream_drawn, hs] at this
  · have := State.settleClose_settled (s.settleFlush i) i false
    rwa [hl, hs] at this

/-- Every judgement leaves a settled state. -/
theorem State.settle_settled (s : State) : s.settle.settled = true := by
  rw [State.settled_iff]
  intro i
  unfold State.settle
  cases i
  · rw [State.settleWalker_other _ (by simp)]
    simpa using State.settleWalker_settled s .event
  · simpa using State.settleWalker_settled (s.settleWalker .event) .capture

/-- A walker that is not FILLING is settled. -/
theorem Walker.settled_of_not_filling {w : Walker} (h : w.state ≠ .filling) (fifo : List Record) (linger : Nat) :
    w.settled fifo linger = true := by
  simp [Walker.settled, Walker.atRest, h]

/-- A settled state in which one walker is put out of FILLING and the other is left is settled. -/
theorem State.settled_of_walker {s t : State} (i : StreamId) (h : s.settled = true) (hi : (t.walker i).state ≠ .filling)
    (hj : ∀ j, j ≠ i → t.walker j = s.walker j ∧ (t.stream j).fifo = (s.stream j).fifo ∧
      t.lingerSetting j = s.lingerSetting j) : t.settled = true := by
  rw [State.settled_iff] at h ⊢
  intro j
  by_cases e : j = i
  · subst e; exact Walker.settled_of_not_filling hi _ _
  · obtain ⟨h1, h2, h3⟩ := hj j e
    rw [h1, h2, h3]; exact h j

end Sys2Proof.Machine
end

