-- ==== Sys2Proof/Laws/Streams.lean ====
section
/-! SUPPORT. What an offer to a stream and a count of lost records can do: the stream becomes the one of R80's table, and
the capacities of R77 and R83 are kept. -/

namespace Sys2Proof.Machine

/-- A record takes 2 or 4 words (R78, R79). -/
theorem Record.words_cases (r : Record) : r.words = 2 ∨ r.words = 4 := by cases r <;> simp [Record.words]

/-- The words of a record in memory are as many as its size says. -/
@[simp] theorem Record.length_encode (r : Record) : r.encode.length = r.words := by cases r <;> rfl

@[simp] theorem fifoWords_nil : fifoWords [] = 0 := rfl

@[simp] theorem fifoWords_cons (r : Record) (rs : List Record) : fifoWords (r :: rs) = r.words + fifoWords rs := by
  simp [fifoWords]

@[simp] theorem fifoWords_append (xs ys : List Record) : fifoWords (xs ++ ys) = fifoWords xs + fifoWords ys := by
  simp [fifoWords]

/-- A run of records takes an even number of words. -/
theorem fifoWords_even (rs : List Record) : fifoWords rs % 2 = 0 := by
  induction rs with
  | nil => rfl
  | cons r rs ih =>
    rw [fifoWords_cons]
    rcases r.words_cases with h | h <;> omega

/-- The data of a record burst are as many words as its records take. -/
@[simp] theorem length_flatten_encode (rs : List Record) : (rs.map Record.encode).flatten.length = fifoWords rs := by
  induction rs with
  | nil => rfl
  | cons r rs ih => simp [ih]

@[simp] theorem occupancy_event (fifo : List Record) : StreamId.event.occupancy fifo = fifo.length := by
  induction fifo with
  | nil => rfl
  | cons r rs ih =>
    simp only [StreamId.occupancy, List.map_cons, List.sum_cons, List.length_cons] at ih ⊢
    simp only [StreamId.size] at ih ⊢
    omega

@[simp] theorem occupancy_capture (fifo : List Record) : StreamId.capture.occupancy fifo = fifoWords fifo := rfl

/-- The free space of R77. -/
theorem State.freeSpace_eq (s : State) (i : StreamId) : s.freeSpace i = freeOf i (s.stream i).fifo := by
  cases i <;> simp [State.freeSpace, freeOf, StreamId.capacity, Config.eventCapacity, Config.captureCapacity]

@[simp] theorem State.stream_markDirty (s : State) (c : Section) (i : StreamId) : (s.markDirty c).stream i = s.stream i := by
  cases i <;> rfl

@[simp] theorem State.stream_raise (s : State) (n : Notice) (i : StreamId) : (s.raise n).stream i = s.stream i := by
  cases i <;> simp [State.stream]

/-- Counting records lost (R83), at the stream. -/
theorem State.stream_countLost (s : State) (i j : StreamId) (k : Nat) :
    (s.countLost i k).stream j =
      if j = i ∧ k ≠ 0 then
        { s.stream i with
          lost := min 65535 ((s.stream i).lost + k)
          saturated := (s.stream i).saturated || decide (65535 < (s.stream i).lost + k) }
      else s.stream j := by
  unfold State.countLost
  by_cases hk : k = 0
  · simp [hk]
  · by_cases h : j = i
    · subst h; simp [hk]; exact ⟨rfl, rfl⟩
    · simp [hk, h]

/-- Counting records lost (R83), at the stream whose records they are. -/
theorem State.stream_countLost_self (s : State) (i : StreamId) (k : Nat) :
    (s.countLost i k).stream i = (s.stream i).afterLosing k := by
  rw [State.stream_countLost, RecordStream.afterLosing]
  by_cases hk : k = 0 <;> simp [hk]

/-- A stream takes a record exactly where it has room (R80). -/
theorem State.accepts_eq (s : State) (i : StreamId) (r : Record) :
    s.accepts i r = !(s.stream i).hasNoRoom i r := by
  unfold State.accepts RecordStream.hasNoRoom
  rw [State.freeSpace_eq]
  have key (a b : Nat) : decide (a ≤ b) = !decide (b < a) := by
    rw [← decide_not]; exact decide_eq_decide.2 Nat.not_lt.symm
  by_cases h : (s.stream i).lost = 0
  · simp only [h, if_true]; cases i <;> exact key _ _
  · simp only [h, if_false]; cases i <;> exact key _ _

/-- R80's table by the stream's own sizes. -/
theorem RecordStream.afterOffer_eq (x : RecordStream) (i : StreamId) (tick : Word) (r : Record) :
    x.afterOffer i tick r =
      if x.lost = 0 ∧ i.size r ≤ freeOf i x.fifo then { x with fifo := x.fifo ++ [r] }
      else if 0 < x.lost ∧ i.gapSize + i.size r ≤ freeOf i x.fifo then
        { fifo := x.fifo ++ [i.gapRecord x.lost x.saturated tick, r], lost := 0, saturated := false }
      else { x with lost := min 65535 (x.lost + 1), saturated := x.saturated || decide (65535 ≤ x.lost) } := by
  cases i <;> rfl

/-- An offer (R80), at the stream offered to: R80's table. -/
theorem State.stream_offer_self (s : State) (i : StreamId) (r : Record) :
    (s.offer i r).stream i = (s.stream i).afterOffer i s.time.tick r := by
  rw [RecordStream.afterOffer_eq]
  unfold State.offer State.accepts
  simp only [State.freeSpace_eq]
  by_cases h0 : (s.stream i).lost = 0
  · by_cases h1 : i.size r ≤ freeOf i (s.stream i).fifo
    · simp [h0, h1]
    · simp [h0, h1, State.stream_countLost]
  · have h0' : 0 < (s.stream i).lost := Nat.pos_of_ne_zero h0
    by_cases h1 : i.gapSize + i.size r ≤ freeOf i (s.stream i).fifo
    · simp [h0, h0', h1]
    · have : (65535 < (s.stream i).lost + 1) = (65535 ≤ (s.stream i).lost) := by simp only [eq_iff_iff]; omega
      simp [h0, h0', h1, State.stream_countLost, this]

/-- An offer to one stream leaves the other as it stands. -/
theorem State.stream_offer_other (s : State) {i j : StreamId} (r : Record) (h : j ≠ i) :
    (s.offer i r).stream j = s.stream j := by
  unfold State.offer
  dsimp only
  repeat' split
  all_goals simp [h, State.stream_countLost]

/-- The event stream after an offer to it. -/
theorem State.eventStream_offer (s : State) (r : Record) :
    (s.offer .event r).eventStream = s.eventStream.afterOffer .event s.time.tick r := s.stream_offer_self .event r

/-- The capture stream after an offer to it. -/
theorem State.captureStream_offer (s : State) (r : Record) :
    (s.offer .capture r).captureStream = s.captureStream.afterOffer .capture s.time.tick r :=
  s.stream_offer_self .capture r

@[simp] theorem State.captureStream_offer_event (s : State) (r : Record) :
    (s.offer .event r).captureStream = s.captureStream := s.stream_offer_other (j := .capture) r (by simp)

@[simp] theorem State.eventStream_offer_capture (s : State) (r : Record) :
    (s.offer .capture r).eventStream = s.eventStream := s.stream_offer_other (j := .event) r (by simp)

/-- An offer in its three cases (R80): the record enters, a GAP and the record enter, or the record is counted lost. -/
theorem RecordStream.afterOffer_cases (x : RecordStream) (i : StreamId) (tick : Word) (r : Record) :
    (x.lost = 0 ∧ i.size r ≤ freeOf i x.fifo ∧ x.afterOffer i tick r = { x with fifo := x.fifo ++ [r] }) ∨
      (0 < x.lost ∧ i.gapSize + i.size r ≤ freeOf i x.fifo ∧
        x.afterOffer i tick r =
          { fifo := x.fifo ++ [i.gapRecord x.lost x.saturated tick, r], lost := 0, saturated := false }) ∨
      x.afterOffer i tick r =
        { x with lost := min 65535 (x.lost + 1), saturated := x.saturated || decide (65535 ≤ x.lost) } := by
  rw [RecordStream.afterOffer_eq]
  by_cases c1 : x.lost = 0 ∧ i.size r ≤ freeOf i x.fifo
  · exact .inl ⟨c1.1, c1.2, if_pos c1⟩
  · by_cases c2 : 0 < x.lost ∧ i.gapSize + i.size r ≤ freeOf i x.fifo
    · exact .inr (.inl ⟨c2.1, c2.2, by rw [if_neg c1, if_pos c2]⟩)
    · exact .inr (.inr (by rw [if_neg c1, if_neg c2]))

/-- An offer keeps the event FIFO within 32 records and the lost count within 65535 (R77, R83). -/
theorem RecordStream.afterOffer_event_bounds (x : RecordStream) (tick : Word) (r : Record)
    (h1 : x.fifo.length ≤ 32) :
    (x.afterOffer .event tick r).fifo.length ≤ 32 ∧ (x.afterOffer .event tick r).lost ≤ 65535 := by
  rcases x.afterOffer_cases .event tick r with ⟨_, h, e⟩ | ⟨_, h, e⟩ | e <;> rw [e]
  · simp [StreamId.size, freeOf] at h ⊢; omega
  · simp [StreamId.size, StreamId.gapSize, freeOf] at h ⊢; omega
  · simp; omega

/-- An offer keeps the capture FIFO within 1024 words and the lost count within 65535 (R77, R83). -/
theorem RecordStream.afterOffer_capture_bounds (x : RecordStream) (tick : Word) (r : Record)
    (h1 : fifoWords x.fifo ≤ 1024) :
    fifoWords (x.afterOffer .capture tick r).fifo ≤ 1024 ∧ (x.afterOffer .capture tick r).lost ≤ 65535 := by
  rcases x.afterOffer_cases .capture tick r with ⟨_, h, e⟩ | ⟨_, h, e⟩ | e <;> rw [e]
  · have := r.words_cases
    simp [StreamId.size, freeOf] at h ⊢; omega
  · have := r.words_cases
    simp [StreamId.size, StreamId.gapSize, StreamId.gapRecord, Record.words, freeOf] at h ⊢; omega
  · simp; omega

end Sys2Proof.Machine
end

