-- ==== Sys2Proof/Laws/Capture.lean ====
section
/-! SUPPORT. What the capture unit's operations can do, in the words of the statements: the record of a captured
transaction, the loss in its group, and the GROUP_ENDs that are due. -/

namespace Sys2Proof.Machine

/-- The capture record of R67. -/
theorem PendingEntry.record_eq (p : PendingEntry) (ans : MemResponse) : p.record ans = recordOf p ans := by
  obtain ⟨g, f, k, ts, a, ac, pr, m, n, fb, v⟩ := p
  cases f <;> cases ac <;> simp [PendingEntry.record, recordOf, fullData]

/-- A GROUP_END is due exactly when no live pending entry carries its number (R70). -/
theorem CaptureUnit.groupPending_eq (c : CaptureUnit) (g : ClosedGroup) :
    c.groupPending g.number = !groupDue c.pendingList g := by
  simp only [CaptureUnit.groupPending, groupDue]
  induction c.pendingList with
  | nil => rfl
  | cons p ps ih =>
    simp only [List.any_cons, List.all_cons, ih]
    cases p.voided <;> by_cases h : p.group = g.number <;> simp [h]

@[simp] theorem State.stream_setCapture (s : State) (c : CaptureUnit) (i : StreamId) :
    (s.setCapture c).stream i = s.stream i := by
  cases i <;> rfl

/-- Offering the GROUP_ENDs that are due (R70), at the capture unit: they leave the owed list. -/
theorem State.capture_offerDue (owed : List ClosedGroup) (s : State) :
    (s.offerDue owed).capture = { s.capture with owed := stillOwed s.capture.pendingList owed } := by
  induction owed generalizing s with
  | nil => rfl
  | cons g gs ih =>
    unfold State.offerDue stillOwed
    rw [CaptureUnit.groupPending_eq]
    cases h : groupDue s.capture.pendingList g
    · simp [h, State.setCapture]
    · simp [h, ih, State.setCapture, stillOwed]

/-- Offering the GROUP_ENDs that are due (R70), at the capture stream. -/
theorem State.captureStream_offerDue (owed : List ClosedGroup) (s : State) :
    (s.offerDue owed).captureStream = s.captureStream.afterGroupEnds s.time.tick s.capture.pendingList owed := by
  induction owed generalizing s with
  | nil => rfl
  | cons g gs ih =>
    unfold State.offerDue RecordStream.afterGroupEnds
    rw [CaptureUnit.groupPending_eq]
    cases h : groupDue s.capture.pendingList g
    · simp [h, State.setCapture]
    · simp [h, ih, State.setCapture, RecordStream.afterGroupEnds, State.captureStream_offer]

/-- A loss in a group (R69) touches the open group and the owed list alone. -/
theorem CaptureUnit.countGroupLost_eq (c : CaptureUnit) (number : BitVec 8) :
    c.countGroupLost number = { c with
      openGroup := c.openGroup.map fun g =>
        if g.number = number then { g with lost := min 0xFFFFFFFF (g.lost + 1) } else g
      owed := if c.openGroup.any (fun g => decide (g.number = number)) then c.owed
        else updateFirst (fun g => decide (g.number = number)) (fun g => { g with lost := min 0xFFFFFFFF (g.lost + 1) })
          c.owed } := by
  obtain ⟨st, tr, gn, og, qt, ow, pl⟩ := c
  cases og with
  | none => rfl
  | some g =>
    by_cases h : g.number = number
    · simp [CaptureUnit.countGroupLost, h, groupCount, Config.groupCountMax]
    · simp [CaptureUnit.countGroupLost, h, countOwedLost, groupCount, Config.groupCountMax]

end Sys2Proof.Machine
end

