-- ==== Sys2Proof/Laws/Commands.lean ====
section
/-! SUPPORT. What a delivery can do: the three refusals before a command's own stages, and the result word that ends it,
as the one record update `State.completed`. -/

namespace Sys2Proof.Machine

/-- A notice in a set stays in it when it is added again. -/
theorem or_mask_of_getLsbD {n k : Nat} (x : BitVec n) (hk : x.getLsbD k = true) : x ||| (1#n <<< k) = x := by
  apply BitVec.eq_of_getLsbD_eq
  intro i hi
  simp only [BitVec.getLsbD_or, BitVec.getLsbD_shiftLeft]
  by_cases h : i = k
  · subst h; simp [hk]
  · have : ¬ (i - k = 0 ∧ ¬ i < k) := by omega
    by_cases hlt : i < k
    · simp [hlt]
    · have h2 : i - k ≠ 0 := by omega
      simp [hlt, BitVec.getLsbD_one, h2]

/-- `raise` as one update: the notice is in the raw set, and the notices section is dirty if it was not there before. -/
theorem State.raise_eq (s : State) (n : Notice) :
    s.raise n = { s with
      notices := { s.notices with raw := s.notices.raw ||| n.mask }
      report := { s.report with dirty := s.report.dirty ||| (if s.isRaised n then 0#8 else 0x02#8) } } := by
  unfold State.raise
  by_cases h : s.isRaised n = true
  · have := or_mask_of_getLsbD s.notices.raw (k := n.bit) h
    simp only [h, if_true, BitVec.or_zero]
    simp [Notice.mask, this]
  · simp only [h]
    rfl

/-- The result word is set in one update (R136). -/
theorem State.setResult_eq (s : State) (code : BitVec 8) (r : Result) (f : Nat) (n : BitVec 8) :
    s.setResult code r f n = { s with
      command := { s.command with
        result := { code := code, result := r.code, fieldIndex := BitVec.ofNat 12 f, number := n } }
      notices := { s.notices with raw := s.notices.raw ||| 0x400#13 }
      report := { s.report with
        dirty := s.report.dirty ||| 0x01#8 ||| (if s.notices.raw.getLsbD 10 then 0#8 else 0x02#8) } } := by
  unfold State.setResult
  rw [State.raise_eq]
  rfl

/-- The result that ends a refused delivery. -/
theorem State.setResult_counted (s : State) (code : BitVec 8) (r : Result) :
    s.counted.setResult code r 0 (s.command.count + 1) =
      s.completed code r.code := by
  simp [State.setResult_eq, State.completed, State.counted]

@[simp] theorem State.settled_completed (s : State) (code : BitVec 8) (r : BitVec 4) :
    (s.completed code r).settled = s.settled := rfl

/-- A refusal is its own account alone. -/
theorem State.deliver_busy (s : State) (code : BitVec 8) (p : Privilege) (c : Option Command)
    (h : s.command.running.isSome = true) : s.deliver code p c = s.completed code 2 := by
  simp only [State.deliver, State.busy, h]
  exact State.setResult_counted s code .busy

/-- A USER's delivery to an IDLE unit is refused PRIVILEGE. -/
theorem State.deliver_user (s : State) (code : BitVec 8) (c : Option Command) (h : s.command.running = none) :
    s.deliver code .user c = s.completed code 3 := by
  simp only [State.deliver, State.busy, h]
  exact State.setResult_counted s code .privilege

/-- A supervisor's delivery of a code that names no command is refused UNKNOWN. -/
theorem State.deliver_unknown (s : State) (code : BitVec 8) (h : s.command.running = none) :
    s.deliver code .supervisor none = s.completed code 4 := by
  simp only [State.deliver, State.busy, h]
  exact State.setResult_counted s code .unknown

/-- A supervisor's delivery of a command to an IDLE unit goes to the command's own stages. -/
theorem State.deliver_command (s : State) (c : Command) (h : s.command.running = none) :
    deliverCommand c .supervisor s =
      c.body (s.command.count + 1) s.counted := by
  simp [deliverCommand, State.deliver, State.busy, h]

/-- The event of a command row in a ready state. -/
theorem event_command {s : State} (h : s.ready) (c : Command) :
    event s.live (deliverCommand c .supervisor) s =
      .next (c.body (s.command.count + 1)
s.counted).settle := by
  simp [event, State.live, h.1, State.deliver_command s c h.2.1]

/-- An event whose effect is settled. -/
theorem event_settled {s : State} {b : Bool} {f : State → State} (hb : b = true) (h : (f s).settled = true) :
    event b f s = .next (f s) := by
  simp [event, hb, State.settle_of_settled h]

/-- `markDirtyIf` as one update. -/
theorem State.markDirtyIf_eq (s : State) (b : Bool) (c : Section) :
    s.markDirtyIf b c =
      { s with report := { s.report with dirty := s.report.dirty ||| (if b = true then c.mask else 0#8) } } := by
  cases b
  · simp [State.markDirtyIf]
  · rfl

@[simp] theorem State.arg_counted (s : State) (i : Nat) : s.counted.arg i = s.arg i := rfl

/-- A stream argument names stream 0 or 1, judged whole (R178). -/
theorem streamArg_eq_some_iff (w : Word) (i : StreamId) :
    streamArg w = some i ↔ w.toNat = (if i = .event then 0 else 1) := by
  unfold streamArg
  by_cases h0 : w = 0
  · subst h0; cases i <;> simp
  · by_cases h1 : w = 1
    · subst h1; cases i <;> simp
    · rw [if_neg h0, if_neg h1]
      have h0' : w.toNat ≠ 0 := fun h => h0 (BitVec.eq_of_toNat_eq h)
      have h1' : w.toNat ≠ 1 := fun h => h1 (BitVec.eq_of_toNat_eq h)
      cases i <;> simp [h0', h1']

/-- A stream argument above 1 names none. -/
theorem streamArg_eq_none_iff (w : Word) : streamArg w = none ↔ 1 < w.toNat := by
  constructor
  · intro h
    by_contra hc
    have he := (streamArg_eq_some_iff w .event).2
    have hcap := (streamArg_eq_some_iff w .capture).2
    simp only [h, if_true, reduceCtorEq, if_false, imp_false] at he hcap
    omega
  · intro h
    cases hs : streamArg w with
    | none => rfl
    | some i =>
      have := (streamArg_eq_some_iff w i).1 hs
      cases i <;> simp at this <;> omega

/-- A notice mask is taken exactly when no bit from 13 on is set (R141, R142). -/
theorem noticeMaskArg_of_lt {w : Word} (h : w.toNat < 2 ^ 13) : noticeMaskArg w = some (w.setWidth 13) := by
  unfold noticeMaskArg; exact if_pos h

theorem noticeMaskArg_of_ge {w : Word} (h : 2 ^ 13 ≤ w.toNat) : noticeMaskArg w = none := by
  unfold noticeMaskArg; exact if_neg (by omega)

/-- A state that differs from a settled one in nothing that the judgement reads is left by it as it stands. -/
theorem State.settle_of_frame {s t : State} (h : s.settled = true) (h1 : t.eventWalker = s.eventWalker)
    (h2 : t.captureWalker = s.captureWalker) (h3 : t.eventStream.fifo = s.eventStream.fifo)
    (h4 : t.captureStream.fifo = s.captureStream.fifo) (h5 : t.time.eventLinger = s.time.eventLinger)
    (h6 : t.time.captureLinger = s.time.captureLinger) : t.settle = t :=
  State.settle_of_settled (by rw [State.settled_congr h1 h2 h3 h4 h5 h6]; exact h)

/-- A command whose own stages leave the walkers, the FIFOs and the linger settings: the event is those stages. -/
theorem event_command_of_frame {s t : State} (h : s.ready) (c : Command)
    (e : c.body (s.command.count + 1) s.counted = t) (h1 : t.eventWalker = s.eventWalker)
    (h2 : t.captureWalker = s.captureWalker) (h3 : t.eventStream.fifo = s.eventStream.fifo)
    (h4 : t.captureStream.fifo = s.captureStream.fifo) (h5 : t.time.eventLinger = s.time.eventLinger)
    (h6 : t.time.captureLinger = s.time.captureLinger) : event s.live (deliverCommand c .supervisor) s = .next t := by
  rw [event_command h, e]
  congr 1
  exact State.settle_of_frame h.2.2 h1 h2 h3 h4 h5 h6

/-- A command that its own stages answer with a result and no other effect. -/
theorem event_command_answered {s : State} (h : s.ready) (c : Command) (r : Result)
    (e : c.body (s.command.count + 1) s.counted = s.counted.answer c r (s.command.count + 1)) :
    event s.live (deliverCommand c .supervisor) s = .next (s.completed c.code r.code) :=
  event_command_of_frame h c (e.trans (State.setResult_counted s c.code r)) rfl rfl rfl rfl rfl rfl

/-- The unfolded anchor base is ANCHOR_SEL × 0x1000_0000 + 0xFF00 (R128), which is below 2^32. -/
theorem toNat_anchorBase (a : BitVec 4) : (anchorBase a).toNat = a.toNat * 0x10000000 + 0xFF00 := by
  have := a.isLt
  simp only [anchorBase, BitVec.toNat_ofNat]; omega

/-- A beat matches an anchor word in the words of the statements (R128). -/
theorem State.atAnchor_eq (s : State) (b : CompletedBeat) (n : Nat) :
    s.atAnchor b n = b.matchesAnchor s.policy.active.width s.anchorSel n := by
  simp only [State.atAnchor, CompletedBeat.matchesAnchor, foldAddress, toNat_anchorBase]

/-- The command beat of a completion (R133). -/
theorem State.commandBeat_eq (s : State) (wc : WriteCompletion) : s.commandBeat wc = s.commandBeatIn wc.beats := by
  simp only [State.commandBeat, State.commandBeatIn, State.atAnchor_eq]
  rfl

/-- One beat at a bit of the shadow (R131). -/
theorem getLsbD_mergeBytes (old : Word) (enables : BitVec 4) (data : Word) {byte bit : Nat} (h1 : byte < 4) (h2 : bit < 8) :
    (mergeBytes old enables data).getLsbD (8 * byte + bit) =
      if enables.getLsbD byte then data.getLsbD (8 * byte + bit) else old.getLsbD (8 * byte + bit) := by
  unfold mergeBytes
  simp only [BitVec.getLsbD_append]
  rcases (by omega : byte = 0 ∨ byte = 1 ∨ byte = 2 ∨ byte = 3) with h | h | h | h <;> subst h
  · have h3 : 8 * 0 + bit < 8 := by omega
    simp only [h3, if_true]
    split <;> simp [h2]
  · have h3 : ¬ 8 * 1 + bit < 8 := by omega
    have h4 : 8 * 1 + bit - 8 = bit := by omega
    simp only [h3, if_false, h4, h2, if_true]
    split <;> simp [h2]
  · have h3 : ¬ 8 * 2 + bit < 8 := by omega
    have h4 : ¬ 8 * 2 + bit - 8 < 8 := by omega
    have h5 : 8 * 2 + bit - 8 - 8 = bit := by omega
    simp only [h3, h4, if_false, h5, h2, if_true]
    split <;> simp [h2]
  · have h3 : ¬ 8 * 3 + bit < 8 := by omega
    have h4 : ¬ 8 * 3 + bit - 8 < 8 := by omega
    have h5 : ¬ 8 * 3 + bit - 8 - 8 < 8 := by omega
    have h6 : 8 * 3 + bit - 8 - 8 - 8 = bit := by omega
    simp only [h3, h4, h5, if_false, h6]
    split <;> simp [h2]

/-- The shadow after beats taken in order, at one bit (R131). -/
theorem State.getLsbD_shadowBeats (s : State) (beats : List CompletedBeat) (old : Vector Word 7) (j : Fin 7)
    {byte bit : Nat} (h1 : byte < 4) (h2 : bit < 8) :
    (beats.foldl (shadowBeat s.policy.active.width s.anchorSel) old)[j].getLsbD (8 * byte + bit) =
      beats.foldl
        (fun v b => if s.atAnchor b (j.val + 1) && b.enables.getLsbD byte then b.data.getLsbD (8 * byte + bit) else v)
        (old[j].getLsbD (8 * byte + bit)) := by
  induction beats generalizing old with
  | nil => rfl
  | cons b bs ih =>
    rw [List.foldl_cons, ih, List.foldl_cons]
    congr 1
    simp only [shadowBeat, State.atAnchor_eq, Fin.getElem_fin, Vector.getElem_ofFn]
    by_cases hm : b.matchesAnchor s.policy.active.width s.anchorSel (j.val + 1) = true
    · simp [hm, getLsbD_mergeBytes _ _ _ h1 h2]
    · simp [hm]

/-- The shadow after all beats of a supervisor's completion (R131). -/
theorem State.shadowTakes_takeArguments (s : State) (wc : WriteCompletion) (h : wc.privilege = .supervisor) :
    s.ShadowTakes wc.beats (s.takeArguments wc).command.shadow := by
  intro j byte bit h1 h2
  simp only [State.takeArguments, h, if_true]
  exact s.getLsbD_shadowBeats wc.beats s.command.shadow j h1 h2

end Sys2Proof.Machine
end

