-- ==== Sys2Proof/Laws/Formats.lean ====
section
/-! SUPPORT. The numbers that the layouts of chapter 11 spell: a concatenation as a sum, the deciding entry's field, and the
urgent flag by its level. -/

namespace Sys2Proof.Machine

/-- A concatenation is the upper part at its weight plus the lower part. -/
theorem toNat_append_add {m n : Nat} (x : BitVec m) (y : BitVec n) :
    (x ++ y).toNat = x.toNat * 2 ^ n + y.toNat := by
  rw [BitVec.toNat_append, ← Nat.shiftLeft_add_eq_or_of_lt y.isLt, Nat.shiftLeft_eq]

/-- The index field of a deciding entry: 0 for NONE (R171). -/
theorem toNat_entryIndex (e : Option Nat) : (entryIndex e).toNat = e.getD 0 % 32 := by
  cases e <;> simp [entryIndex]

/-- A flag as a number. -/
theorem toNat_decide (p : Prop) [Decidable p] : (decide p).toNat = if p then 1 else 0 := by by_cases h : p <;> simp [h]

/-- The event stream is urgent from 24 records on (R86). -/
theorem State.urgent_event (s : State) : s.urgent .event = decide (24 ≤ s.eventStream.fifo.length) := by
  rw [State.urgent, occupancy_event]; rfl

/-- The capture stream is urgent from its urgent level on (R86). -/
theorem State.urgent_capture (s : State) :
    s.urgent .capture = decide (s.time.captureUrgent ≤ fifoWords s.captureStream.fifo) := rfl

end Sys2Proof.Machine
end

