-- ==== Sys2Proof/Laws/Policy.lean ====
section
/-! SUPPORT. The seven checks of R11 as the manual words them: each Bool of Machine/Policy.lean says what its rule says. -/

namespace Sys2Proof.Machine

/-- R17: the two runs of bytes meet exactly when some byte is in both. -/
theorem bufferOverlaps_iff (width first last : Nat) (b : DescriptorCopy) (h : first ≤ last) (hl : last < 2 ^ width) :
    bufferOverlaps width first last b = true ↔
      ∃ x y, first ≤ x ∧ x ≤ last ∧ y < b.length ∧ (b.buffer.toNat + y) % 2 ^ width = x := by
  have hM : 0 < 2 ^ width := by positivity
  unfold bufferOverlaps foldAddress
  generalize 2 ^ width = M at *
  have hf : b.buffer.toNat % M < M := Nat.mod_lt _ hM
  have hadd (y : Nat) : (b.buffer.toNat + y) % M = (b.buffer.toNat % M + y) % M := (Nat.mod_add_mod _ _ _).symm
  simp only [hadd]
  generalize b.buffer.toNat % M = f at *
  simp only [Bool.and_eq_true, Bool.or_eq_true, decide_eq_true_eq]
  constructor
  · rintro ⟨h0, h1 | h1⟩
    · refine ⟨first, (first + M - f) % M, le_refl _, h, h1, ?_⟩
      rw [Nat.add_mod_mod]
      have : f + (first + M - f) = first + M := by omega
      rw [this, Nat.add_mod_right, Nat.mod_eq_of_lt (by omega)]
    · by_cases hlt : f < first
      · rw [Nat.mod_eq_of_lt (by omega)] at h1
        omega
      · have e : f + M - first = (f - first) + M := by omega
        rw [e, Nat.add_mod_right, Nat.mod_eq_of_lt (by omega)] at h1
        exact ⟨f, 0, by omega, by omega, h0, by rw [Nat.add_zero, Nat.mod_eq_of_lt hf]⟩
  · rintro ⟨x, y, h1, h2, h3, h4⟩
    refine ⟨by omega, ?_⟩
    have hq : M * ((f + y) / M) + x = f + y := by rw [← h4]; exact Nat.div_add_mod _ _
    rcases Nat.lt_or_ge f first with hlt | hge
    · left
      have e : first + M - f = (first - f) + M := by omega
      rw [e, Nat.add_mod_right, Nat.mod_eq_of_lt (by omega)]
      have : x ≤ f + y := by rw [← h4]; exact Nat.mod_le _ _
      omega
    · rcases Nat.lt_or_ge last f with hgt | hle
      · left
        rw [Nat.mod_eq_of_lt (by omega)]
        rcases Nat.eq_zero_or_pos ((f + y) / M) with hz | hp
        · rw [hz] at hq; omega
        · have : M ≤ M * ((f + y) / M) := Nat.le_mul_of_pos_right _ hp
          omega
      · right
        have e : f + M - first = (f - first) + M := by omega
        rw [e, Nat.add_mod_right, Nat.mod_eq_of_lt (by omega)]
        omega

/-- R12. -/
theorem formatFails_iff (p : Policy) (r : Request) : formatFails p r = true ↔ FormatCheckFails p r := by
  simp only [formatFails, Bool.or_eq_true, decide_eq_true_eq, or_assoc]
  exact Iff.rfl

/-- R13. -/
theorem aliasFails_iff (p : Policy) (r : Request) : aliasFails p r = true ↔ AliasCheckFails p r := by
  unfold aliasFails AliasCheckFails foldAddress
  simp only [Bool.and_eq_true, decide_eq_true_eq]
  refine and_congr_right fun _ => ?_
  constructor
  · intro h
    by_contra hc
    push Not at hc
    apply h
    apply Nat.mod_eq_of_lt
    apply Nat.lt_pow_two_of_testBit
    intro i hi
    have := hc i hi
    simpa [BitVec.getLsbD] using this
  · rintro ⟨bit, hb, hx⟩ h
    have hlt : r.address.toNat < 2 ^ p.width := by
      rw [← h]; exact Nat.mod_lt _ (by positivity)
    have : r.address.toNat < 2 ^ bit := lt_of_lt_of_le hlt (Nat.pow_le_pow_right (by norm_num) hb)
    rw [BitVec.getLsbD, Nat.testBit_lt_two_pow this] at hx
    cases hx

/-- R14. -/
theorem segmentFails_iff (p : Policy) (r : Request) : segmentFails p r = true ↔ SegmentCheckFails p r := by
  simp only [segmentFails, Bool.and_eq_true, decide_eq_true_eq, and_assoc]
  exact Iff.rfl

/-- R15: an entry matches. -/
theorem matchesRequest_iff (p : Policy) (r : Request) (e : RegionEntry) :
    e.matchesRequest r.master (granule (r.firstByte p.width)) = true ↔ EntryMatches p r e := by
  simp only [RegionEntry.matchesRequest, Bool.and_eq_true, decide_eq_true_eq, and_assoc]
  exact Iff.rfl

/-- R15: the entry looked up is the first that matches. -/
theorem lookup_eq_some_iff (p : Policy) (r : Request) (k : Nat) :
    p.lookup r = some k ↔ ∃ e, DecidingEntry p r k e := by
  unfold Policy.lookup DecidingEntry
  rw [List.findIdx?_eq_some_iff_getElem]
  constructor
  · rintro ⟨hk, h1, h2⟩
    refine ⟨p.entries[k], by simp [hk], (matchesRequest_iff p r _).1 h1, ?_⟩
    intro j e' hj he' hm
    have hjl : j < p.entries.length := by omega
    rw [List.getElem?_eq_getElem hjl] at he'
    have := h2 j hj
    rw [Option.some.inj he'] at this
    exact this ((matchesRequest_iff p r e').2 hm)
  · rintro ⟨e, he, hm, hn⟩
    obtain ⟨hk, hke⟩ := List.getElem?_eq_some_iff.1 he
    refine ⟨hk, by rw [hke]; exact (matchesRequest_iff p r e).2 hm, ?_⟩
    intro j hj hmj
    exact hn j p.entries[j] hj (by simp) ((matchesRequest_iff p r _).1 hmj)

/-- R15: no entry is looked up exactly when none matches. -/
theorem lookup_eq_none_iff (p : Policy) (r : Request) : p.lookup r = none ↔ NoDecidingEntry p r := by
  unfold Policy.lookup NoDecidingEntry
  rw [List.findIdx?_eq_none_iff]
  constructor
  · intro h e he hm
    have := h e he
    rw [(matchesRequest_iff p r e).2 hm] at this
    cases this
  · intro h e he
    by_contra hc
    exact h e he ((matchesRequest_iff p r e).1 (by simpa using hc))

/-- R16. -/
theorem straddleFails_iff (p : Policy) (r : Request) (e : RegionEntry) :
    straddleFails p r e = true ↔ StraddleCheckFails p r e := by
  simp only [straddleFails, decide_eq_true_eq]
  exact Iff.rfl

/-- R17, for a request of one beat or more that FORMAT let pass. -/
theorem bufferFails_iff (p : Policy) (buffers : List DescriptorCopy) (r : Request) (hb : 1 ≤ r.beats)
    (hf : ¬ FormatCheckFails p r) : bufferFails p r buffers = true ↔ BufferCheckFails p buffers r := by
  unfold FormatCheckFails at hf
  push Not at hf
  unfold bufferFails BufferCheckFails
  simp only [Bool.and_eq_true, decide_eq_true_eq, List.any_eq_true]
  refine and_congr_right fun _ => exists_congr fun b => and_congr_right fun _ => ?_
  rw [bufferOverlaps_iff]
  · rfl
  · simp only [Request.lastByte]; omega
  · exact hf.2.2

/-- R18. -/
theorem permits_eq (permissions : BitVec 6) (r : Request) :
    permits permissions r = permissionFlag permissions r.privilege r.kind := by
  unfold permits permissionFlag permissionBit
  cases r.privilege <;> cases r.kind <;> rfl

end Sys2Proof.Machine
end

