-- ==== Sys2Proof/Laws/Queue.lean ====
section
/-! SUPPORT. What the list operations of the transaction queue can do: the head is promoted, the first entry of a state is
updated, and nothing else. -/

namespace Sys2Proof.Machine

/-- The first member that satisfies p is replaced, and the rest stays. -/
theorem updateFirst_split {α : Type} (p : α → Bool) (f : α → α) (before after : List α) (x : α)
    (hb : ∀ y ∈ before, p y = false) (hx : p x = true) :
    updateFirst p f (before ++ x :: after) = before ++ f x :: after := by
  induction before with
  | nil => simp [updateFirst, hx]
  | cons y ys ih =>
    simp only [List.cons_append, updateFirst, hb y (by simp)]
    simp [ih (fun z hz => hb z (by simp [hz]))]

/-- Where no member satisfies p, nothing is replaced. -/
theorem updateFirst_none {α : Type} (p : α → Bool) (f : α → α) (xs : List α) (h : ∀ y ∈ xs, p y = false) :
    updateFirst p f xs = xs := by
  induction xs with
  | nil => rfl
  | cons y ys ih => simp [updateFirst, h y (by simp), ih (fun z hz => h z (by simp [hz]))]

@[simp] theorem length_updateFirst {α : Type} (p : α → Bool) (f : α → α) (xs : List α) :
    (updateFirst p f xs).length = xs.length := by
  induction xs with
  | nil => rfl
  | cons y ys ih => by_cases h : p y = true <;> simp [updateFirst, h, ih]

/-- A projection that the update keeps is the same of the whole list. -/
theorem map_updateFirst {α β : Type} (p : α → Bool) (f : α → α) (g : α → β) (h : ∀ x, g (f x) = g x) (xs : List α) :
    (updateFirst p f xs).map g = xs.map g := by
  induction xs with
  | nil => rfl
  | cons y ys ih => by_cases hy : p y = true <;> simp [updateFirst, hy, ih, h]

/-- R29: the head delivers if it is DENIED or HELD. -/
theorem promoteHead_cons (e : QueueEntry) (es : List QueueEntry) :
    promoteHead (e :: es) =
      { e with state := if e.state = .denied ∨ e.state = .held then .delivering else e.state } :: es := by
  obtain ⟨r, d, st, l, a⟩ := e
  cases st <;> simp [promoteHead]

@[simp] theorem promoteHead_nil : promoteHead [] = [] := rfl

@[simp] theorem tail_promoteHead (q : List QueueEntry) : (promoteHead q).tail = q.tail := by
  cases q with
  | nil => rfl
  | cons e es => simp [promoteHead_cons]

@[simp] theorem length_promoteHead (q : List QueueEntry) : (promoteHead q).length = q.length := by
  cases q with
  | nil => rfl
  | cons e es => simp [promoteHead_cons]

@[simp] theorem map_request_promoteHead (q : List QueueEntry) :
    (promoteHead q).map (·.request) = q.map (·.request) := by
  cases q with
  | nil => rfl
  | cons e es => simp [promoteHead_cons]

/-- A queue whose head is neither DENIED nor HELD is left as it stands. -/
theorem promoteHead_of_head (q : List QueueEntry) (h : ∀ e ∈ q.head?, e.state ≠ .denied ∧ e.state ≠ .held) :
    promoteHead q = q := by
  cases q with
  | nil => rfl
  | cons e es =>
    have := h e (by simp)
    simp [promoteHead_cons, this.1, this.2]

/-- Judging the walkers leaves the queue as it stands. -/
theorem settle_queue (s : State) : s.settle.queue = s.queue := by simp [State.settle]

end Sys2Proof.Machine
end

