-- ==== Sys2Proof/Laws/Walkers.lean ====
section
/-! SUPPORT. What a walker's shared operations do: the records a burst takes, and an advance at the linger age. -/

namespace Sys2Proof.Machine

/-! ## The records of a burst (R100) -/

/-- The records that fit are a prefix of the list. -/
theorem recordsThatFit_append_drop (budget : Nat) (l : List Record) :
    recordsThatFit budget l ++ l.drop (recordsThatFit budget l).length = l := by
  induction l generalizing budget with
  | nil => rfl
  | cons r rs ih =>
    unfold recordsThatFit
    split
    · simp [ih]
    · rfl

/-- They fit the budget together. -/
theorem fifoWords_recordsThatFit_le (budget : Nat) (l : List Record) : fifoWords (recordsThatFit budget l) ≤ budget := by
  induction l generalizing budget with
  | nil => simp [recordsThatFit, fifoWords]
  | cons r rs ih =>
    unfold recordsThatFit
    split
    · have := ih (budget - r.words)
      simp only [fifoWords, List.map_cons, List.sum_cons] at this ⊢
      omega
    · simp [fifoWords]

/-- The record behind them does not fit as well. -/
theorem recordsThatFit_maximal (budget : Nat) (l : List Record) (r : Record) (rest : List Record)
    (h : l.drop (recordsThatFit budget l).length = r :: rest) :
    budget < fifoWords (recordsThatFit budget l) + r.words := by
  induction l generalizing budget with
  | nil => simp [recordsThatFit] at h
  | cons x xs ih =>
    unfold recordsThatFit at h ⊢
    split
    · rename_i hx
      rw [if_pos hx] at h
      have := ih (budget - x.words) (by simpa using h)
      simp only [fifoWords, List.map_cons, List.sum_cons] at this ⊢
      omega
    · rename_i hx
      rw [if_neg hx] at h
      cases h
      simp [fifoWords]
      omega

/-- A head record that fits is among them. -/
theorem recordsThatFit_ne_nil (budget : Nat) (r : Record) (rs : List Record) (h : r.words ≤ budget) :
    recordsThatFit budget (r :: rs) ≠ [] := by
  simp [recordsThatFit, h]

/-! ## Linger age (R103) -/

/-- An advance at a walker changes its linger age alone. -/
theorem State.walker_ageWalker_self (s : State) (i : StreamId) :
    (s.ageWalker i).walker i = { s.walker i with lingerAge := (s.walker i).agedBy } := by
  unfold State.ageWalker Walker.agedBy
  cases i <;> dsimp only <;> split <;> rfl

/-- An advance at one walker leaves the other. -/
theorem State.walker_ageWalker_other (s : State) (i j : StreamId) (h : j ≠ i) :
    (s.ageWalker i).walker j = s.walker j := by
  unfold State.ageWalker
  cases i <;> cases j <;> first | exact absurd rfl h | (dsimp only; split <;> rfl)

end Sys2Proof.Machine
end

