-- ==== Sys2Proof/Tests/Slice0.lean ====
section
/-! SUPPORT. Tests: the well-formedness smoke tests, the decoder, one step of each event on a small state, and a state with
operands that meets the hypotheses of each statement of Certificates/Slice0/Obligations.lean (`test_meets_…`). -/

namespace Sys2Proof.Tests

open Machine

/-! ## Helpers -/

/-- The next state of an event, or none where it faults or is refused. -/
def after (i : Instr) (s : State) : Option State :=
  match exec i s with
  | .next t => some t
  | .fault _ => none
  | .refused _ => none

/-- A request of master 0 whose write beats carry 0x11111111 with every enable set. -/
def req (address : Word) (kind : AccessKind) (privilege : Privilege) (beats : Nat) : Request :=
  { address := address, kind := kind, privilege := privilege, master := 0, beats := beats,
    writeData := match kind with
      | .write => List.replicate beats { data := 0x11111111, enables := 0b1111 }
      | .fetch => []
      | .read => [] }

/-- An entry over granules 4 to 7 (bytes 0x100 to 0x1FF) for masters 0 and 1: all but user writes; QUIET; captures reads,
one in two. -/
def entry : RegionEntry :=
  { base := 4, limit := 7, masters := 0b11, permissions := 0b011111, response := .quiet, fill := 0xF1F1F1F1, report := true,
    captureKinds := 0b010, format := .short, factor := 2 }

/-- W = 20, STRICT, the segment boundary at 0x80000, one entry; user reads by default. -/
def policy : Policy :=
  { width := 20, fold := .strict, segmentEnabled := true, segmentBoundary := 0x80000
    defaultRule := { permissions := 0b010111, response := .error, fill := 0xDEADBEEF, report := false }
    entries := [entry] }

/-- The part after reset with another active table. -/
def underPolicy (p : Policy) : State := { State.reset with policy := { State.reset.policy with active := p } }

/-- The part after reset with arguments in the shadow. -/
def withArgs (s : State) (a1 a2 a3 a4 a5 : Word) : State :=
  { s with command := { s.command with shadow := #v[a1, a2, a3, a4, a5, 0, 0] } }

/-- A queued transaction. -/
def queued (r : Request) (v : Verdict) (st : TxState) (ans : Option MemResponse) : QueueEntry :=
  { request := r, decision := { verdict := v, timestamp := 0, entry := none }, state := st, captureLink := false,
    response := ans }

/-- A descriptor copy over 32 bytes at 0x2000. -/
def copy (last : Bool) : DescriptorCopy := { buffer := 0x2000, length := 32, link := 0x3000, last := last, stream := .event }

/-- An event walker in a state, with 16 bytes filled. -/
def walkerIn (st : WalkerState) (tx : Option WalkerTx) : Walker :=
  { state := st, current := 0x1000, copy := some (copy false), fillOffset := 16, gapPresent := false, lingerAge := 0,
    closeReason := if st = .closing then some .full else none, inFlight := tx, flushCount := none, abortError := false }

/-- A reading of one issued transaction. -/
def issuedFor (r : Requester) (isWrite : Bool) (beats : Nat) : Arbiter :=
  { issued := [{ requester := r, isWrite := isWrite, beats := beats, voided := false }], fairness := 0, drain := 0 }

/-- The event walker after reset replaced, and the issue list naming it if it has a transaction in flight. -/
def eventWalkerIn (st : WalkerState) (tx : Option WalkerTx) (isWrite : Bool) (beats : Nat) : State :=
  { State.reset with
    eventWalker := walkerIn st tx
    arbiter := if tx.isSome then issuedFor .event isWrite beats else State.reset.arbiter }

/-! ## Well-formedness and the decoder -/

theorem test_wellFormed_request : (Instr.decisionPoint (req 0x100 .write .user 16)).wellFormed = true := by decide

theorem test_illFormed_no_beats : (Instr.decisionPoint (req 0x100 .read .user 0)).wellFormed = false := by decide

theorem test_illFormed_17_beats : (Instr.decisionPoint (req 0x100 .read .user 17)).wellFormed = false := by decide

theorem test_illFormed_write_data :
    (Instr.decisionPoint { req 0x100 .write .user 2 with beats := 3 }).wellFormed = false := by decide

theorem test_illFormed_read_data :
    (Instr.decisionPoint { req 0x100 .write .user 2 with kind := .read }).wellFormed = false := by decide

theorem test_illFormed_completion_empty :
    (Instr.anchorArgumentWrite { privilege := .supervisor, master := 0, beats := [] }).wellFormed = false := by decide

theorem test_illFormed_completion_17 :
    (Instr.anchorArgumentWrite
      { privilege := .supervisor, master := 0, beats := List.replicate 17 ⟨0x100, 0xF, 0⟩ }).wellFormed = false := by decide

theorem test_illFormed_completion_address :
    (Instr.anchorArgumentWrite { privilege := .supervisor, master := 0, beats := [⟨0x102, 0xF, 0⟩] }).wellFormed = false := by
  decide

theorem test_illFormed_unknown_low : (Instr.unknownCommand .supervisor 0x01).wellFormed = false := by decide

theorem test_illFormed_unknown_high : (Instr.unknownCommand .supervisor 0x11).wellFormed = false := by decide

theorem test_wellFormed_unknown :
    (Instr.unknownCommand .supervisor 0x00).wellFormed = true ∧ (Instr.unknownCommand .supervisor 0x12).wellFormed = true := by
  decide

theorem test_refused_illFormed : exec (.decisionPoint (req 0 .read .user 0)) State.reset = .refused .illFormed := rfl

theorem test_decode_none : decodeTableWord 8 0x01 = none ∧ State.reset.withFetchWord 8 0x01 = State.reset := ⟨rfl, rfl⟩

theorem test_step_idles : step State.reset = .next State.reset := rfl

theorem test_step_takes_front :
    step { State.reset with pending := [.clock, .memoryGrant] } = exec .clock { State.reset with pending := [.memoryGrant] } :=
  rfl

/-! ## Reset -/

theorem test_reset_drains :
    (after (.reset 2 .openStart) (eventWalkerIn .fetching (some .fetch) false 4)).map
        (fun t => (t.arbiter.drain, t.arbiter.issued, t.resetAsserted, t.eventWalker.state)) =
      some (1, [], true, .idle) := by decide

theorem test_meets_ReleaseLoadsTheStrappedResetPolicy :
    ({ State.reset with resetAsserted := true }).resetAsserted = true ∧
      (after (.resetRelease 3 .openStart) { State.reset with resetAsserted := true }).map
          (fun t => (t.anchorSel, t.resetAsserted, t.policy.active.defaultRule.permissions)) =
        some (3, false, 0b111111) := by decide

/-! ## Judging -/

theorem test_judge_format :
    FormatCheckFails policy (req 0x102 .read .user 1) ∧ FormatCheckFails policy (req 0xFFFFFFFC .read .user 2) ∧
      FormatCheckFails policy (req 0xFFFFC .read .user 2) ∧ ¬ FormatCheckFails policy (req 0xFFFFC .read .user 1) ∧
      policy.judge [] (req 0xFFFFC .read .user 2) = (policy.deniesByDefault .format, none) := by
  simp only [← formatFails_iff]; decide

theorem test_judge_alias :
    (¬ FormatCheckFails policy (req 0x100100 .read .user 1) ∧ AliasCheckFails policy (req 0x100100 .read .user 1)) ∧
      policy.judge [] (req 0x100100 .read .user 1) = (policy.deniesByDefault .aliased, none) ∧
      (({ policy with fold := .fold }).judge [] (req 0x100100 .read .user 1)).2 = some 0 := by
  simp only [← formatFails_iff, ← aliasFails_iff]; decide

theorem test_judge_segment :
    SegmentCheckFails policy (req 0x80000 .read .user 1) ∧ ¬ SegmentCheckFails policy (req 0x7FFFC .read .user 1) ∧
      ¬ AliasCheckFails policy (req 0x80000 .read .user 1) ∧ ¬ FormatCheckFails policy (req 0x80000 .read .user 1) ∧
      policy.judge [] (req 0x80000 .read .user 1) = (policy.deniesByDefault .segment, none) := by
  simp only [← formatFails_iff, ← aliasFails_iff, ← segmentFails_iff]; decide

theorem test_judge_entry :
    (∃ e, DecidingEntry policy (req 0x1FC .read .user 2) 0 e) ∧
      StraddleCheckFails policy (req 0x1FC .read .user 2) entry ∧ ¬ StraddleCheckFails policy (req 0x1FC .read .user 1) entry ∧
      policy.judge [] (req 0x1FC .read .user 2) = (entry.denies .straddle, some 0) ∧
      policy.judge [copy false] (req 0x100 .write .user 1) = (entry.denies .permission, some 0) ∧
      policy.judge [] (req 0x1FC .read .user 1) = (.pass (some { format := .short, factor := 2 }), some 0) := by
  simp only [← lookup_eq_some_iff, ← straddleFails_iff]; decide

theorem test_judge_default :
    NoDecidingEntry policy (req 0x200 .read .user 1) ∧ NoDecidingEntry policy (req 0xFC .read .user 1) ∧
      policy.judge [] (req 0x200 .read .user 1) = (.pass none, none) ∧
      policy.judge [] (req 0x200 .write .user 1) = (policy.deniesByDefault .permission, none) := by
  simp only [← lookup_eq_none_iff]; decide

theorem test_judge_buffer :
    BufferCheckFails policy [copy false] (req 0x1FFC .write .supervisor 2) ∧
      ¬ BufferCheckFails policy [copy false] (req 0x1FFC .write .supervisor 1) ∧
      ¬ BufferCheckFails policy [copy false] (req 0x2020 .write .supervisor 1) ∧
      policy.judge [copy false] (req 0x1FFC .write .supervisor 2) = (policy.deniesByDefault .buffer, none) ∧
      ({ policy with entries := [{ entry with limit := 255 }] }).judge [copy false] (req 0x1FFC .write .supervisor 2) =
        (policy.deniesByDefault .buffer, some 0) := by
  have h (a : Word) (n : Nat) (h1 : 1 ≤ (req a .write .supervisor n).beats)
      (h2 : ¬ FormatCheckFails policy (req a .write .supervisor n)) := bufferFails_iff policy [copy false] _ h1 h2
  rw [← h _ _ (by decide) (by rw [← formatFails_iff]; decide), ← h _ _ (by decide) (by rw [← formatFails_iff]; decide),
    ← h _ _ (by decide) (by rw [← formatFails_iff]; decide)]
  decide

/-! ## Decision point and delivery -/

theorem test_meets_RequestIsTakenOrHeldOff :
    (req 0x100 .read .user 1).wellFormed = true ∧ State.reset.portReady ∧ State.reset.queueLaw ∧ State.reset.settled = true ∧
      (let full := { State.reset with
          queue := List.replicate 4 (queued (req 0x100 .read .supervisor 1) (.pass none) .unsent none) };
        full.resetAsserted = false ∧ 4 ≤ full.queue.length ∧
          (after (.decisionPoint (req 0x100 .read .user 1)) full).map (·.queue.length) = some 4) ∧
      (let s := underPolicy policy;
        (s.policy.active.judge s.currentBuffers (req 0x100 .read .user 1)).1 =
            .pass (some { format := .short, factor := 2 }) ∧ s.capture.state = .stopped ∧
          (after (.decisionPoint (req 0x100 .read .user 1)) s).map
              (fun t => (t.queue.map (·.captureLink), decide (t = { s with queue := t.queue }))) = some ([false], true)) := by
  refine ⟨rfl, ⟨rfl, by decide⟩, ?_, rfl, ⟨rfl, by decide, by decide⟩, by decide⟩
  simp [State.queueLaw, State.reset, State.resetValues]

/-- R42 under the CLOSED reset policy: a default-rule denial, at the head, so it delivers at once. -/
theorem test_decision_denied :
    (after (.decisionPoint (req 0x100 .read .user 2)) State.reset).map
        (fun t => (t.denial.latch.map (·.kind), t.denial.sticky, t.denial.defaultCount, t.eventStream.fifo.length,
          t.queue.map (·.state))) =
      some (some .permission, 0b100000, 1, 1, [.delivering]) := by decide

/-- The part under `policy` with an event FIFO of n MARK records. -/
def withEvents (n : Nat) : State :=
  { underPolicy policy with eventStream := { fifo := List.replicate n (.eventMark 1 2), lost := 0, saturated := false } }

/-- ARMED with a trigger. -/
def armed (kind : TriggerKind) (s : State) : State :=
  { s with capture := { s.capture with
      state := .armed, trigger := { kind := kind, entry := 0, quiet := 0, limit := 0, oneShot := false } } }

/-- The hypotheses of `DenialTakesItsAccount`, for a denial by an entry, one by the default rule, with an armed ON_DENIAL
trigger without and with a DENIAL record, and with a record that finds no room. -/
theorem test_meets_DenialTakesItsAccount :
    (underPolicy policy).portReady ∧ (req 0x1FC .read .user 2).wellFormed = true ∧
      ((underPolicy policy).policy.active.judge (underPolicy policy).currentBuffers (req 0x1FC .read .user 2)) =
        (entry.denies .straddle, some 0) ∧
      ((underPolicy policy).policy.active.judge (underPolicy policy).currentBuffers (req 0x80000 .read .user 1)) =
        (policy.deniesByDefault .segment, none) ∧
      (let s := armed .onDenial (underPolicy policy);
        s.portReady ∧ s.policy.active.judge s.currentBuffers (req 0x80000 .read .user 1) =
          (policy.deniesByDefault .segment, none) ∧
        (after (.decisionPoint (req 0x80000 .read .user 1)) s).map (fun t => (t.capture.state, t.eventStream.fifo)) =
          some (.running, [.captureState .armed .running 0 0]) ∧
        s.policy.active.judge s.currentBuffers (req 0x1FC .read .user 2) = (entry.denies .straddle, some 0)) ∧
      (withEvents 32).portReady ∧
      (after (.decisionPoint (req 0x1FC .read .user 2)) (withEvents 32)).map
          (fun t => (t.eventStream.lost, t.isRaised .eventLoss, t.isDirty .denial)) = some (1, true, true) := by
  refine ⟨⟨rfl, by decide⟩, rfl, by decide, by decide, ⟨⟨rfl, by decide⟩, ?_⟩, ⟨rfl, by decide⟩, ?_⟩ <;> decide

/-- RUNNING under `policy` with a counter at a value and a limit. -/
def running (counter limit : Nat) : State :=
  { underPolicy policy with
    policy := { (underPolicy policy).policy with decimation := (Vector.replicate 32 1).set 0 counter }
    capture := { State.reset.capture with
      state := .running, trigger := { kind := .immediate, entry := 0, quiet := 5, limit := limit, oneShot := true } } }

/-- The hypotheses of `ConsideredAccessIsSkippedOrCaptured`, at the counters 2 (a skip) and 1 (a capture), without a limit
reached and with one, behind an owed group whose GROUP_END is due; and for the access that fires an ON_ENTRY trigger. -/
theorem test_meets_ConsideredAccessIsSkippedOrCaptured :
    (running 2 0).portReady ∧ (running 1 0).portReady ∧ (running 1 1).portReady ∧ (armed .onEntry (running 2 0)).portReady ∧
      (req 0x100 .read .user 1).wellFormed = true ∧
      (running 2 0).policy.active.judge (running 2 0).currentBuffers (req 0x100 .read .user 1) =
        (.pass (some { format := .short, factor := 2 }), some 0) ∧
      (running 2 0).policy.decimation[0]? = some 2 ∧ (running 1 0).policy.decimation[0]? = some 1 ∧
      (after (.decisionPoint (req 0x100 .read .user 1)) (running 2 0)).map
          (fun t => (t.policy.decimation[0]?, t.capture.pendingList.length)) = some (some 1, 0) ∧
      (after (.decisionPoint (req 0x100 .read .user 1)) (running 1 0)).map
          (fun t => (t.policy.decimation[0]?, t.capture.pendingList.length, t.capture.quietTimer)) =
        some (some 2, 1, some 5) ∧
      (after (.decisionPoint (req 0x100 .read .user 1)) (running 1 1)).map
          (fun t => (t.capture.state, t.capture.groupNumber, t.capture.owed.length)) = some (.stopped, 1, 1) ∧
      (let s := running 1 1;
        let owing := { s with capture := { s.capture with
          owed := [{ number := 9, reason := .stop, timestamp := 0, produced := 1, lost := 0, skips := 0 }] } };
        (after (.decisionPoint (req 0x100 .read .user 1)) owing).map
          (fun t => (t.capture.owed.map (·.number), t.captureStream.fifo.length, t.eventStream.fifo)) =
            some ([0], 1, [.captureState .running .stopped 1 0])) ∧
      (after (.decisionPoint (req 0x100 .read .user 1)) (armed .onEntry (running 2 0))).map
          (fun t => (t.capture.state, t.policy.decimation[0]?, t.eventStream.fifo)) =
        some (.running, some 1, [.captureState .armed .running 0 0]) := by
  refine ⟨⟨rfl, by decide⟩, ⟨rfl, by decide⟩, ⟨rfl, by decide⟩, ⟨rfl, by decide⟩, rfl, ?_⟩
  decide

/-- The hypotheses of `DeliveryHandsOverTheHeadsResponse`, for a forwarded head and for a denied one, with a DENIED entry
behind it. -/
theorem test_meets_DeliveryHandsOverTheHeadsResponse :
    (let passed := queued (req 0x100 .read .supervisor 1) (.pass none) .delivering (some { code := .okay, data := [7] });
      let denied := queued (req 0x100 .read .user 2) (policy.deniesByDefault .segment) .denied none;
      let s := { State.reset with queue := [passed, denied] };
      let t := { State.reset with queue := [{ denied with state := .delivering }] };
      s.settled = true ∧ t.settled = true ∧
        (after .deliveryEnd s).map (fun x => (x.processorPort, x.queue.map (·.state))) =
          some (some { code := .okay, data := [7] }, [.delivering]) ∧
        (after .deliveryEnd t).map (fun x => (x.processorPort, x.queue.length)) =
          some (some { code := .error, data := [0xDEADBEEF, 0xDEADBEEF] }, 0)) := by decide

/-! ## Memory port -/

/-- The part after reset with a queue. -/
def withQueue (q : List QueueEntry) : State := { State.reset with queue := q }

/-- A read forwarded and not yet sent. -/
def unsent : QueueEntry := queued (req 0x100 .read .supervisor 1) (.pass none) .unsent none

/-- The hypotheses of `GrantGoesByRankAndFairness`: PASS wins over a dirty section below run count 8 and yields to it at 8;
the port closed by a drain and by 8 issued transactions; nothing standing. -/
theorem test_meets_GrantGoesByRankAndFairness :
    (let contended (n : Nat) := { withQueue [unsent] with
        report := { dirty := 0x81, inFlight := none, fault := false }, arbiter := { issued := [], fairness := n, drain := 0 } };
      (((contended 7).ranks.find? (·.1)).map (·.2) = some .pass) ∧
        (((contended 8).ranks.find? (·.1)).map (·.2) = some .report) ∧
        (after .memoryGrant (contended 7)).map (fun t => (t.arbiter.fairness, t.arbiter.issued.length)) = some (8, 1) ∧
        (after .memoryGrant (contended 8)).map (fun t => (t.arbiter.fairness, t.report.dirty)) = some (0, 0x80)) ∧
      (State.reset.settled = true ∧ ∀ w, State.reset.stands w = false) ∧
      (let draining := { withQueue [unsent] with arbiter := { issued := [], fairness := 0, drain := 1 } };
        let full := { withQueue [unsent] with arbiter :=
          { issued := List.replicate 8 { requester := .report, isWrite := true, beats := 1, voided := false }, fairness := 0,
            drain := 0 } };
        draining.settled = true ∧ 0 < draining.arbiter.drain ∧ full.settled = true ∧ 8 ≤ full.arbiter.issued.length ∧
          (after .memoryGrant draining).map (·.memoryPort) = some none ∧
          (after .memoryGrant full).map (·.memoryPort) = some none) := by
  refine ⟨by decide, ⟨rfl, ?_⟩, by decide⟩
  intro w; cases w <;> rfl

theorem test_meets_PassGrantForwardsTheOldestUnsent :
    (let s := withQueue [{ unsent with state := .atMemory }, unsent];
      s.settled = true ∧ s.winner = some .pass ∧
        s.queue = [{ unsent with state := .atMemory }] ++ unsent :: [] ∧
        (∀ x ∈ [{ unsent with state := .atMemory }], x.state ≠ .unsent) ∧ unsent.state = .unsent ∧
        (after .memoryGrant s).map (fun t => (t.memoryPort, t.queue.map (·.state))) =
          some (some unsent.request, [.atMemory, .atMemory])) := by decide

theorem test_meets_ReportGrantWritesTheLowestDirtySection :
    (let s := { State.reset with report := { dirty := 0x82, inFlight := none, fault := true } };
      s.settled = true ∧ s.winner = some .report ∧ s.report.dirty.getLsbD 1 = true ∧
        (∀ j, j < 1 → s.report.dirty.getLsbD j = false) ∧
        (after .memoryGrant s).map (fun t => (t.report.dirty, t.memoryPort.map (fun q => (q.address, q.writeData.map (·.data))))) =
          some (0x80, some (0x1000FF24, [0, 0, 1]))) := by decide

/-- The law of R100 for the states of `eventWalkerIn`. -/
theorem test_bufferLaw (st : WalkerState) (tx : Option WalkerTx) (w : Bool) (n : Nat) (h : ∀ rs, tx ≠ some (.burst rs))
    (hst : ∀ x, tx = some x → st = x.issuedIn ∨ st = .aborting) : (eventWalkerIn st tx w n).bufferLaw := by
  refine ⟨⟨?_, ?_, ?_, ?_, ?_, hst⟩, ⟨?_, ?_, ?_, ?_, ?_, ?_⟩⟩
  · intro c hc
    cases hc
    refine ⟨?_, ?_, ?_, ?_, ?_⟩ <;> simp [copy, eventWalkerIn, walkerIn]
  · intro rs hrs; exact absurd hrs (h rs)
  · intro _; rfl
  · intro hst
    have : st = .closing := hst
    subst this
    exact ⟨rfl, by simp [eventWalkerIn, walkerIn]⟩
  · intro hr
    refine ⟨Or.inl ?_, rfl⟩
    simpa [eventWalkerIn, walkerIn, apply_ite Option.isSome] using hr
  · intro c hc; cases hc
  · intro rs hrs; cases hrs
  · rintro (hst | hst) <;> cases hst
  · intro hst; cases hst
  · intro hr; cases hr
  · intro tx htx; cases htx

/-- A fetch, a status write and an abort's fetch in flight meet the law; a CLOSING walker with a fetch in flight does not. -/
theorem test_bufferLaw_inFlight :
    (eventWalkerIn .fetching (some .fetch) false 4).bufferLaw ∧ (eventWalkerIn .closing (some .status) true 1).bufferLaw ∧
      (eventWalkerIn .aborting (some .fetch) false 4).bufferLaw ∧
      ¬ (eventWalkerIn .closing (some .fetch) false 4).bufferLaw := by
  refine ⟨test_bufferLaw _ _ _ _ (by intro rs h; cases h) ?_, test_bufferLaw _ _ _ _ (by intro rs h; cases h) ?_,
    test_bufferLaw _ _ _ _ (by intro rs h; cases h) ?_, ?_⟩
  · rintro _ ⟨⟩; exact Or.inl rfl
  · rintro _ ⟨⟩; exact Or.inl rfl
  · rintro _ ⟨⟩; exact Or.inr rfl
  · rintro ⟨⟨_, _, _, _, _, h⟩, _⟩
    rcases h .fetch rfl with h | h <;> cases h

/-- ABORTING, with a reason once a status write is due. -/
def aborting (tx : Option WalkerTx) (reason : Option CloseReason) (isWrite : Bool) (beats : Nat) : State :=
  let s := eventWalkerIn .aborting tx isWrite beats
  { s with
    eventWalker := { s.eventWalker with closeReason := reason }
    command := { s.command with running := some { code := 0x05, number := 7, stream := some .event } } }

/-- The hypotheses of `WalkerGrantIssuesItsTransaction` in its three clauses; the burst carries the first of two records,
which fills the buffer, or both where they fit; the status write of an abort. -/
theorem test_meets_WalkerGrantIssuesItsTransaction :
    (let fetch := eventWalkerIn .fetching none false 4;
      let burst := { eventWalkerIn .filling none true 4 with
        eventStream := { fifo := [.eventMark 1 2, .eventMark 3 4], lost := 0, saturated := false } };
      let close := eventWalkerIn .closing none true 1;
      let abort := aborting none (some .abort) true 1;
      let both := { burst with eventWalker := { burst.eventWalker with fillOffset := 0 } };
      both.winner = some .event ∧ both.settled = true ∧
        (after .memoryGrant both).map (fun t => (t.arbiter.issued.map (·.beats), t.eventStream.fifo.length)) = some ([8], 0) ∧
      abort.winner = some .event ∧ abort.settled = true ∧
        (after .memoryGrant abort).map (fun t => t.memoryPort.map (fun q => (q.address, q.writeData.map (·.data)))) =
          some (some (0x100C, [0x0000100E])) ∧
      fetch.winner = some .event ∧ burst.winner = some .event ∧ close.winner = some .event ∧ fetch.settled = true ∧
        burst.settled = true ∧ close.settled = true ∧
        (after .memoryGrant fetch).map (fun t => t.memoryPort.map (fun q => (q.address, q.beats))) = some (some (0x1000, 4)) ∧
        (after .memoryGrant burst).map (fun t => (t.memoryPort.map (fun q => (q.address, q.writeData.map (·.data))),
            t.eventStream.fifo.length)) =
          some (some (0x2010, [0x1B, 1, 2, 0]), 1) ∧
        (after .memoryGrant close).map (fun t => t.memoryPort.map (fun q => (q.address, q.writeData.map (·.data)))) =
          some (some (0x100C, [0x00001002]))) := by decide

/-- A load running as command 3, with a part read. -/
def loading (part : Option LoadedPart) (inFlight : Bool) : State :=
  { State.reset with
    policy := { State.reset.policy with staged := .loading }
    command := { State.reset.command with
      running := some { code := 0x02, number := 3, stream := none }
      loader := some { image := 0x4000, part := part, inFlight := inFlight } }
    arbiter := if inFlight then issuedFor .command false (if part.isSome then 16 else 8) else State.reset.arbiter }

/-- A part of an image of `count` entries, with one entry read. -/
def part (count : Nat) : LoadedPart := { count := count, policy := policy }

/-- A snapshot at an area, so far granted and answered. -/
def engine (granted answered : Nat) : StatsEngine :=
  { area := 0x5000, slots := (Vector.replicate 32 0).set 1 7, default := 9, saturated := false, granted := granted,
    answered := answered, error := false }

/-- STATS running as command 4. -/
def counting (granted answered : Nat) : State :=
  { State.reset with
    command := { State.reset.command with
      running := some { code := 0x0F, number := 4, stream := none }, stats := some (engine granted answered) }
    arbiter := if answered < granted then issuedFor .command true 16 else State.reset.arbiter }

/-- The hypotheses of `CommandGrantIssuesImageReadOrStatsBurst`: the header, a burst of two entries, a burst of the last
one, and both bursts of STATS. -/
theorem test_meets_CommandGrantIssuesImageReadOrStatsBurst :
    (∀ s ∈ [loading none false, loading (some (part 3)) false, loading (some (part 2)) false, counting 0 0, counting 1 1],
      s.resetAsserted = false ∧ s.arbiter.drain = 0 ∧ s.arbiter.issued.length < 8 ∧ s.settled = true ∧
        s.winner = some .command) ∧
      ([loading none false, loading (some (part 3)) false, loading (some (part 2)) false].map fun s =>
          (after .memoryGrant s).bind (fun t => t.memoryPort.map (fun q => (q.address, q.beats)))) =
        [some (0x4000, 8), some (0x4040, 16), some (0x4040, 8)] ∧
      ([counting 0 0, counting 1 1].map fun s =>
          (after .memoryGrant s).bind (fun t => t.memoryPort.map (fun q => (q.address, (q.writeData.map (·.data)).head?)))) =
        [some (0x5000, some 0x00070000), some (0x5040, some 9)] := by decide

/-! ## Memory completions -/

/-- One forwarded transaction of a kind at memory, behind others. -/
def atMemory (before : List QueueEntry) (r : Request) : State :=
  { State.reset with
    queue := before ++ [queued r (.pass none) .atMemory none]
    arbiter := issuedFor .pass (decide (r.kind = .write)) r.beats }

/-- The hypotheses of `MemoryAnswerIsStoredWithItsTransaction`: at the head, and behind a denied entry that delivers. -/
theorem test_meets_MemoryAnswerIsStoredWithItsTransaction :
    (let behind := atMemory [queued (req 0x100 .read .user 1) (policy.deniesByDefault .segment) .delivering none]
        (req 0x200 .read .supervisor 2);
      (atMemory [] (req 0x200 .read .supervisor 2)).owesAnswerTo .pass
          { requester := .pass, isWrite := false, beats := 2, voided := false } ∧
        (atMemory [] (req 0x200 .read .supervisor 2)).queueLaw ∧ behind.queueLaw ∧
        (after (.passMemoryCompletion { code := .okay, data := [5, 6] }) (atMemory [] (req 0x200 .read .supervisor 2))).map
            (fun t => t.queue.map (fun e => (e.state, e.response))) =
          some [(.delivering, some { code := .okay, data := [5, 6] })] ∧
        (after (.passMemoryCompletion { code := .error, data := [5, 6] }) behind).map
            (fun t => (t.queue.map (·.state), t.notices.raw, t.eventStream.fifo.length)) =
          some ([.delivering, .held], 0x002, 1)) := by
  refine ⟨⟨rfl, rfl, rfl, rfl, [], rfl⟩, ?_, ?_, by decide, by decide⟩
  all_goals unfold State.queueLaw
  all_goals decide

/-- A pending entry of a group for the SHORT record of a 2-beat read. -/
def pendingEntry (group : BitVec 8) (voided : Bool) : PendingEntry :=
  { group := group, format := .short, entry := 0, timestamp := 5, address := 0x200, access := .read, privilege := .supervisor,
    master := 0, beats := 2, firstBeat := none, voided := voided }

/-- One captured read at memory, of group 3, which is closed and owed. -/
def captured (voided : Bool) : State :=
  { atMemory [] (req 0x200 .read .supervisor 2) with
    queue := [{ queued (req 0x200 .read .supervisor 2) (.pass none) .atMemory none with captureLink := true }]
    capture := { State.reset.capture with
      groupNumber := 4
      pendingList := [pendingEntry 3 voided]
      owed := [{ number := 3, reason := .limit, timestamp := 5, produced := 1, lost := 0, skips := 0 }] } }

/-- The capture clause of `MemoryAnswerIsStoredWithItsTransaction`: a record and its GROUP_END, and a void entry. -/
theorem test_meets_MemoryAnswer_captured :
    ((captured false).capture.pendingList = pendingEntry 3 false :: [] ∧
        ((captured false).queue.map (·.captureLink)) = [true] ∧
        (after (.passMemoryCompletion { code := .okay, data := [5, 6] }) (captured false)).map
            (fun t => (t.captureStream.fifo, t.capture.owed, t.capture.pendingList)) =
          some ([.short 0x200 .read .supervisor 0 2 3 5,
            .groupEnd { number := 3, reason := .limit, timestamp := 5, produced := 1, lost := 0, skips := 0 }], [], []) ∧
        (after (.passMemoryCompletion { code := .okay, data := [5, 6] }) (captured true)).map
            (fun t => (t.captureStream.fifo.length, t.capture.pendingList)) = some (1, [])) := by decide

set_option maxRecDepth 4000 in
/-- The same over a full capture FIFO: the record is lost in its owed group, and then the GROUP_END. -/
theorem test_meets_MemoryAnswer_lost :
    (let full := { captured false with captureStream := { State.reset.captureStream with
        fifo := List.replicate 256 (.full 0 .read .user 0 1 0 0 0 0 false) } };
      (after (.passMemoryCompletion { code := .okay, data := [5, 6] }) full).map
          (fun t => (t.captureStream.lost, t.isRaised .captureLoss)) = some (2, true)) := by decide

/-- Another number of data beats than was issued is no answer a memory partner can give (R26). -/
theorem test_fault_memoryBeats :
    exec (.passMemoryCompletion { code := .okay, data := [5] }) (atMemory [] (req 0x200 .read .supervisor 2)) =
      .fault .memoryBeats := rfl

/-- The hypotheses of `OkayWriteDeliversACommandBeat`: a supervisor write of REFRESH to anchor word 0, one of MARK with its
two arguments in the same burst, a user's, a write elsewhere, and a write over the status word a walker waits on. -/
theorem test_meets_OkayWriteDeliversACommandBeat :
    (let command := { req 0x1000FF00 .write .supervisor 1 with writeData := [{ data := 0xABCDEF01, enables := 0b1111 }] };
      (atMemory [] command).owesAnswerTo .pass { requester := .pass, isWrite := true, beats := 1, voided := false } ∧
        ((atMemory [] command).queue.find? (fun x => decide (x.state = .atMemory))).map (·.request.kind) = some .write ∧
        (after (.passMemoryCompletion { code := .okay, data := [] }) (atMemory [] command)).map
            (fun t => (t.command.count, t.command.result.encode, t.report.dirty)) =
          some (1, 0x01000101, 0xFF) ∧
        (after (.passMemoryCompletion { code := .okay, data := [] }) (atMemory [] (req 0x200 .write .supervisor 1))).map
            (·.command.count) = some 0) ∧
      (let mark (p : Privilege) := { req 0x1000FF00 .write p 3 with writeData :=
          [{ data := 0x0000000A, enables := 0b1111 }, { data := 1, enables := 0b1111 }, { data := 7, enables := 0b0001 }] };
        (deliveredBy (.mark .supervisor) = some (.supervisor, 0x0A)) ∧
        (after (.passMemoryCompletion { code := .okay, data := [] }) (atMemory [] (mark .supervisor))).map
            (fun t => (t.command.result.encode, t.captureStream.fifo, t.command.shadow.toList)) =
          some (0x0100010A, [.captureMark 7 0], [1, 7, 0, 0, 0, 0, 0]) ∧
        (after (.passMemoryCompletion { code := .okay, data := [] }) (atMemory [] (mark .user))).map
            (fun t => (t.command.result.encode, t.command.shadow.toList)) =
          some (0x0100030A, [0, 0, 0, 0, 0, 0, 0])) ∧
      (let waiting := { atMemory [] (req 0x1008 .write .supervisor 2) with eventWalker := walkerIn .waiting none };
        waiting.releases (waiting.completedBeats (req 0x1008 .write .supervisor 2)) .event = true ∧
        (after (.passMemoryCompletion { code := .okay, data := [] }) waiting).map
            (fun t => (t.eventWalker.state, t.stands .event)) = some (.fetching, true)) := by
  refine ⟨⟨⟨rfl, rfl, rfl, rfl, [], rfl⟩, by decide, by decide, by decide⟩, by decide, by decide⟩

/-- The hypotheses of `DrainedAndVoidAnswersReachNoOwner`, clause by clause. -/
theorem test_meets_DrainedAndVoidAnswersReachNoOwner :
    (let draining := { State.reset with arbiter := { issued := [], fairness := 0, drain := 1 }, resetAsserted := true };
      let void := { State.reset with arbiter :=
        { issued := [{ requester := .event, isWrite := true, beats := 1, voided := true }], fairness := 0, drain := 0 } };
      draining.settled = true ∧ void.settled = true ∧ void.arbiter.drain = 0 ∧ State.reset.arbiter.issued = [] ∧
        (after (.drainResponse { code := .error, data := [] }) draining).map (·.arbiter.drain) = some 0 ∧
        (after (.voidAnswerDiscard { code := .error, data := [] }) void).map (·.arbiter.issued) = some [] ∧
        after (.voidAnswerDiscard { code := .error, data := [] }) State.reset = some State.reset) := by decide

/-- A walker's state with FLUSH running as command 7 and a flush count. -/
def flushing (s : State) (n : Nat) : State :=
  { s with
    eventWalker := { s.eventWalker with flushCount := some n }
    command := { s.command with running := some { code := 0x07, number := 7, stream := some .event } } }

/-- The flush and abort clauses of `DescriptorFetchIsJudged`: a flush goes on at PART and ends STATE, STATE and MEMERR; an
abort discards the answer and completes. -/
theorem test_meets_DescriptorFetch_flush_abort :
    (let s := flushing (eventWalkerIn .fetching (some .fetch) false 4) 2;
      let a := aborting (some .fetch) none false 4;
      s.settled = true ∧ a.eventWalker.state = .aborting ∧ a.eventWalker.inFlight = some .fetch ∧
        a.owesAnswerTo .event { requester := .event, isWrite := false, beats := 4, voided := false } ∧
        ([[0x2000, 0x100, 0x3000, 1], [0x2000, 0x100, 0x3000, 2], [0x2000, 8, 0x3000, 1]].map fun d =>
            (after (.descriptorFetchCompletion { code := .okay, data := d }) s).map
              (fun t => (t.eventWalker.flushCount, t.command.result.encode))) =
          [some (some 2, 0), some (none, 0x07000607), some (none, 0x07000607)] ∧
        (after (.descriptorFetchCompletion { code := .error, data := [0, 0, 0, 0] }) s).map (·.command.result.encode) =
          some 0x07000907 ∧
        (after (.descriptorFetchCompletion { code := .error, data := [0, 0, 0, 0] }) a).map
            (fun t => (t.eventWalker.state, t.command.result.encode, t.notices.raw)) = some (.idle, 0x07000105, 0x400)) := by
  refine ⟨by decide, rfl, rfl, ⟨rfl, rfl, rfl, rfl, [], rfl⟩, ?_⟩
  decide

/-- The hypotheses of `DescriptorFetchIsJudged`: owner PART, owner SOFTWARE, another stream's descriptor, a length of 8, and
ERROR. -/
theorem test_meets_DescriptorFetchIsJudged :
    (let s := eventWalkerIn .fetching (some .fetch) false 4;
      s.owesAnswerTo .event { requester := .event, isWrite := false, beats := 4, voided := false } ∧
        s.eventWalker.state = .fetching ∧ s.eventWalker.inFlight = some .fetch ∧
        ([[0x2000, 0x100, 0x3000, 1], [0x2000, 0x100, 0x3000, 2], [0x2000, 0x100, 0x3002, 1], [0x2000, 8, 0x3000, 1]].map
            fun d => (after (.descriptorFetchCompletion { code := .okay, data := d }) s).map (·.eventWalker.state)) =
          [some .filling, some .waiting, some .faulted, some .faulted] ∧
        (after (.descriptorFetchCompletion { code := .error, data := [0, 0, 0, 0] }) s).map
            (fun t => (t.eventWalker.state, t.notices.raw)) = some (.faulted, 0x200)) := by
  refine ⟨⟨rfl, rfl, rfl, rfl, [], rfl⟩, ?_⟩
  decide

/-- The hypotheses of `RecordBurstAdvancesOrFaults`: a burst that fills the buffer, one that does not, and an ERROR. -/
theorem test_meets_RecordBurstAdvancesOrFaults :
    (let s (rs : List Record) := eventWalkerIn .filling (some (.burst rs)) true 4;
      (s [.eventMark 1 2]).owesAnswerTo .event { requester := .event, isWrite := true, beats := 4, voided := false } ∧
        (s [.eventMark 1 2]).eventWalker.copy = some (copy false) ∧
        (after (.recordBurstCompletion .okay) (s [.eventMark 1 2])).map
            (fun t => (t.eventWalker.state, t.eventWalker.closeReason, t.eventWalker.fillOffset)) =
          some (.closing, some .full, 32) ∧
        (after (.recordBurstCompletion .okay) (s [])).map (·.eventWalker.state) = some .filling ∧
        (after (.recordBurstCompletion .error) (s [.eventMark 1 2])).map
            (fun t => (t.eventWalker.state, t.notices.raw, t.eventStream.fifo.length)) = some (.faulted, 0x204, 2)) := by
  refine ⟨⟨rfl, rfl, rfl, rfl, [], rfl⟩, ?_⟩
  decide

/-- A capture walker with 8 bytes left after its burst, and a head record of 4 words (R101's second condition). -/
def captureNearlyFull : State :=
  { State.reset with
    captureWalker := { walkerIn .filling (some (.burst [.captureMark 1 2])) with copy := some { copy false with stream := .capture } }
    captureStream := { State.reset.captureStream with
      fifo := [.groupEnd { number := 3, reason := .limit, timestamp := 5, produced := 1, lost := 0, skips := 0 }] }
    arbiter := issuedFor .capture true 2 }

/-- The other clauses of `RecordBurstAdvancesOrFaults`: FULL by a head record that does not fit, a flush count that falls, a
flush at its end point and one that ends MEMERR; and ABORTING with a buffer that holds records and with an empty one. -/
theorem test_meets_RecordBurst_flush_abort :
    (let longer (s : State) := { s with eventWalker := { s.eventWalker with copy := some { copy false with length := 64 } } };
      let s (n : Nat) := flushing (longer (eventWalkerIn .filling (some (.burst [.eventMark 1 2])) true 4)) n;
      let a (offset : Nat) (rs : List Record) :=
        let x := aborting (some (.burst rs)) none true 4
        { x with eventWalker := { x.eventWalker with fillOffset := offset } };
      captureNearlyFull.owesAnswerTo .capture { requester := .capture, isWrite := true, beats := 2, voided := false } ∧
        (a 16 []).owesAnswerTo .event { requester := .event, isWrite := true, beats := 4, voided := false } ∧
        (s 2).settled = true ∧
        (after (.recordBurstCompletion .okay) captureNearlyFull).map
            (fun t => (t.captureWalker.state, t.captureWalker.closeReason, t.captureWalker.fillOffset)) =
          some (.closing, some .full, 24) ∧
        ([1, 2].map fun n => (after (.recordBurstCompletion .okay) (s n)).map
            (fun t => (t.eventWalker.state, t.eventWalker.closeReason, t.eventWalker.flushCount))) =
          [some (.closing, some .flush, some 0), some (.filling, none, some 1)] ∧
        (after (.recordBurstCompletion .error) (s 2)).map (fun t => (t.command.result.encode, t.eventStream.lost)) =
          some (0x07000907, 0) ∧
        (after (.recordBurstCompletion .okay) (a 16 [.eventMark 1 2])).map
            (fun t => (t.eventWalker.state, t.eventWalker.closeReason, t.eventWalker.fillOffset)) =
          some (.aborting, some .abort, 32) ∧
        (after (.recordBurstCompletion .okay) (a 0 [])).map (fun t => (t.eventWalker.state, t.command.result.encode)) =
          some (.idle, 0x07000105) ∧
        (after (.recordBurstCompletion .error) (a 16 [.eventMark 1 2])).map
            (fun t => (t.eventWalker.abortError, t.eventWalker.closeReason, t.eventStream.lost)) =
          some (true, some .abort, 1) ∧
        (after (.recordBurstCompletion .error) (a 0 [.eventMark 1 2])).map
            (fun t => (t.eventWalker.state, t.command.result.encode, t.eventStream.lost)) = some (.idle, 0x07000905, 1)) := by
  refine ⟨⟨rfl, rfl, rfl, rfl, [], rfl⟩, ⟨rfl, rfl, rfl, rfl, [], rfl⟩, ?_⟩
  decide

/-- The hypotheses of `StatusWriteHandsTheBufferBack`: a link to follow, the last descriptor, and an ERROR. -/
theorem test_meets_StatusWriteHandsTheBufferBack :
    (let s := eventWalkerIn .closing (some .status) true 1;
      let last := { s with eventWalker := { s.eventWalker with copy := some (copy true) } };
      s.owesAnswerTo .event { requester := .event, isWrite := true, beats := 1, voided := false } ∧
        s.eventWalker.state = .closing ∧ s.eventWalker.inFlight = some .status ∧
        (after (.statusWriteCompletion .okay) s).map (fun t => (t.eventWalker.state, t.eventWalker.current, t.notices.raw)) =
          some (.fetching, 0x3000, 0x010) ∧
        (after (.statusWriteCompletion .okay) last).map (fun t => (t.eventWalker.state, t.notices.raw)) =
          some (.ended, 0x110) ∧
        (after (.statusWriteCompletion .error) s).map (fun t => (t.eventWalker.state, t.notices.raw)) =
          some (.faulted, 0x200)) := by
  refine ⟨⟨rfl, rfl, rfl, rfl, [], rfl⟩, ?_⟩
  decide

/-- What the test of a status write looks at. -/
def walkerSeen (t : State) : WalkerState × Option Nat × Word × BitVec 13 :=
  (t.eventWalker.state, t.eventWalker.flushCount, t.command.result.encode, t.notices.raw)

/-- The flush and abort clauses of `StatusWriteHandsTheBufferBack`: a flush at its end point ends DONE or MEMERR, one before
it goes on along the link and ends STATE at LAST; an abort ends DONE or MEMERR. -/
theorem test_meets_StatusWrite_flush_abort :
    (let s (n : Nat) := flushing (eventWalkerIn .closing (some .status) true 1) n;
      let last := { s 1 with eventWalker := { (s 1).eventWalker with copy := some (copy true) } };
      let a := aborting (some .status) (some .abort) true 1;
      a.owesAnswerTo .event { requester := .event, isWrite := true, beats := 1, voided := false } ∧ (s 0).settled = true ∧
        ([after (.statusWriteCompletion .okay) (s 0), after (.statusWriteCompletion .error) (s 0),
            after (.statusWriteCompletion .okay) (s 1), after (.statusWriteCompletion .okay) last,
            after (.statusWriteCompletion .okay) a, after (.statusWriteCompletion .error) a].map fun t => t.map walkerSeen) =
          [some (.fetching, none, 0x07000107, 0x410), some (.faulted, none, 0x07000907, 0x600),
            some (.fetching, some 1, 0, 0x010), some (.ended, none, 0x07000607, 0x510),
            some (.idle, none, 0x07000105, 0x410), some (.idle, none, 0x07000905, 0x400)]) := by
  refine ⟨⟨rfl, rfl, rfl, rfl, [], rfl⟩, ?_⟩
  decide

/-- The hypotheses of `ReportAnswerPublishesAndFlagsErrors`: a notices write that publishes, and an ERROR. -/
theorem test_meets_ReportAnswerPublishesAndFlagsErrors :
    (let s := { State.reset with
        report := { dirty := 0, inFlight := some { section_ := .notices, raw := some 0x400 }, fault := false }
        notices := { raw := 0x400, enable := 0x400, published := 0, line := false }
        arbiter := issuedFor .report true 3 };
      s.owesAnswerTo .report { requester := .report, isWrite := true, beats := 3, voided := false } ∧ s.settled = true ∧
        (after (.reportWriteCompletion .okay) s).map (fun t => (t.notices.published, t.notices.line, t.report.dirty)) =
          some (0x400, true, 0) ∧
        (after (.reportWriteCompletion .error) s).map (fun t => (t.notices.line, t.report.fault, t.report.dirty)) =
          some (true, true, 2)) := by
  refine ⟨⟨rfl, rfl, rfl, rfl, [], rfl⟩, ?_⟩
  decide

/-- The hypotheses of `SecondStatsAnswerCompletesTheCommand`, at the first answer and at the second. -/
theorem test_meets_SecondStatsAnswerCompletesTheCommand :
    (counting 1 0).owesAnswerTo .command { requester := .command, isWrite := true, beats := 16, voided := false } ∧
      (counting 2 1).owesAnswerTo .command { requester := .command, isWrite := true, beats := 16, voided := false } ∧
      (counting 1 0).settled = true ∧ (counting 1 0).command.loader = none ∧
      (after (.statsBurstCompletion .okay) (counting 1 0)).map (fun t => t.command.stats.map (·.answered)) = some (some 1) ∧
      (after (.statsBurstCompletion .error) (counting 2 1)).map (fun t => (t.command.result.encode, t.command.running)) =
        some (0x0400090F, none) := by
  refine ⟨⟨rfl, rfl, rfl, rfl, [], rfl⟩, ⟨rfl, rfl, rfl, rfl, [], rfl⟩, ?_⟩
  decide

/-- A header: version 1, a count, W and fold mode, no segment, default rule 0x37. -/
def header (count shape : Word) : List Word := [1, count, shape, 0, 0x37, 0, 0, 0]

/-- The hypotheses of `HeaderReadIsCheckedInOrder`: an entry count of 0, of 32 and of 33, W 16 and 15, and an ERROR. -/
theorem test_meets_HeaderReadIsCheckedInOrder :
    (loading none true).owesAnswerTo .command { requester := .command, isWrite := false, beats := 8, voided := false } ∧
      firstFailure (headerChecks fun i => (header 0 16).getD i 0) = none ∧
      firstFailure (headerChecks fun i => (header 33 15).getD i 0) = some 1 ∧
      firstFailure (headerChecks fun i => (header 32 15).getD i 0) = some 2 ∧
      ([header 0 16, header 32 16, header 33 15, header 32 15].map fun d =>
          (after (.policyReadCompletion { code := .okay, data := d }) (loading none true)).map
            (fun t => (t.command.result.encode, t.policy.staged.code, t.report.dirty, t.notices.raw))) =
        [some (0x03000102, 2, 0x43, 0x400), some (0, 1, 0, 0), some (0x03001802, 0, 0x43, 0x400),
          some (0x03002802, 0, 0x43, 0x400)] ∧
      (after (.policyReadCompletion { code := .error, data := header 0 16 }) (loading none true)).map
          (·.command.result.encode) = some 0x03000902 := by
  refine ⟨⟨rfl, rfl, rfl, rfl, [], rfl⟩, ?_⟩
  decide

/-- An entry record over granules 1 to 2 with a last word. -/
def record (limit last : Word) : List Word := [1, limit, 0xFF, 0x3F, 0, last, 0, 0]

/-- The hypotheses of `EntryBurstIsCheckedInOrder` for a burst of two: the last of three entries, with two more to come,
and a second entry out of range. -/
theorem test_meets_EntryBurstIsCheckedInOrder :
    (loading (some (part 3)) true).owesAnswerTo .command
        { requester := .command, isWrite := false, beats := 16, voided := false } ∧
      (record 2 0 ++ record 2 0).length = 16 ∧ (part 3).policy.entries.length + 2 ≤ (part 3).count ∧
      (part 2).policy.entries.length + 1 = (part 2).count ∧
      (after (.policyReadCompletion { code := .okay, data := record 2 0 ++ record 2 0x00FF0000 })
          (loading (some (part 3)) true)).map (fun t => (t.command.result.encode, t.policy.staged.code)) =
        some (0x03000102, 2) ∧
      (after (.policyReadCompletion { code := .okay, data := record 2 0 ++ record 2 0 })
          (loading (some (part 4)) true)).map (fun t => (t.command.result.encode, t.command.running.isSome)) =
        some (0, true) ∧
      (after (.policyReadCompletion { code := .okay, data := record 2 0 ++ record 2 0x01000000 })
          (loading (some (part 3)) true)).map (fun t => (t.command.result.encode, t.policy.staged.code)) =
        some (0x0301D802, 0) ∧
      (after (.policyReadCompletion { code := .error, data := record 2 0 ++ record 2 0 })
          (loading (some (part 3)) true)).map (fun t => (t.command.result.encode, t.policy.staged.code)) =
        some (0x03000902, 0) := by
  refine ⟨⟨rfl, rfl, rfl, rfl, [], rfl⟩, ?_⟩
  decide

/-- The same for a burst of one, the last of two entries. -/
theorem test_meets_EntryBurstIsCheckedInOrder_last :
    (let s := { loading (some (part 2)) true with arbiter := issuedFor .command false 8 };
      s.owesAnswerTo .command { requester := .command, isWrite := false, beats := 8, voided := false } ∧
        (record 2 0).length = 8 ∧
        (after (.policyReadCompletion { code := .okay, data := record 2 0 }) s).map (·.command.result.encode) =
          some 0x03000102) := by
  refine ⟨⟨rfl, rfl, rfl, rfl, [], rfl⟩, ?_⟩
  decide

/-! ## Time -/

/-- The time base one clock before an advance, at a divider. -/
def atDivider (s : State) (divider : Nat) : State :=
  { s with time := { s.time with divider := divider, prescale := divider - 1, tick := 0xFFFFFFFF, eventLinger := 3 } }

/-- The hypotheses of `ClockCountsAndAdvancesTheTick`: below the divider, at it, and at divider 1, with the tick count
wrapping. -/
theorem test_meets_ClockCountsAndAdvancesTheTick :
    (let below := { State.reset with time := { State.reset.time with divider := 100, prescale := 98 } };
      below.settled = true ∧ below.time.prescale + 1 < below.time.divider ∧
        (atDivider State.reset 100).time.divider ≤ (atDivider State.reset 100).time.prescale + 1 ∧
        (after .clock below).map (fun t => (t.time.tick, t.time.prescale)) = some (0, 99) ∧
        (after .clock (atDivider State.reset 100)).map (fun t => (t.time.tick, t.time.prescale)) = some (0, 0) ∧
        (after .tickAdvance (atDivider State.reset 1)).map (fun t => (t.time.tick, t.time.prescale)) = some (0, 0)) := by
  decide

/-- The linger clauses: an age that rises, also with a burst in flight, to its end and to the setting; a walker that is not
FILLING and one with an empty buffer; and a GROUP_END that the same advance brings and that does not fit. -/
theorem test_meets_ClockAgesTheWalkers :
    (let aged (age : Nat) (s : State) := atDivider { s with eventWalker := { s.eventWalker with lingerAge := age } } 1;
      let seen (s : State) := (after .clock s).map (fun t => (t.eventWalker.state, t.eventWalker.lingerAge));
      let empty := { eventWalkerIn .filling none true 1 with eventWalker :=
        { (eventWalkerIn .filling none true 1).eventWalker with fillOffset := 0 } };
      (aged 1 (eventWalkerIn .filling none true 1)).settled = true ∧
        seen (aged 1 (eventWalkerIn .filling none true 1)) = some (.filling, 2) ∧
        seen (aged 2 (eventWalkerIn .filling none true 1)) = some (.closing, 3) ∧
        seen (aged 65535 (eventWalkerIn .filling (some (.burst [.eventMark 1 2])) true 4)) = some (.filling, 65535) ∧
        seen (aged 1 (eventWalkerIn .closing none true 1)) = some (.closing, 1) ∧ seen (aged 1 empty) = some (.filling, 1)) ∧
      (let s := { atDivider (running 1 0) 1 with
          capture := { (running 1 0).capture with
            openGroup := some { number := 0, produced := 1, lost := 0, skips := 0 }, quietTimer := some 1 }
          captureWalker := { walkerIn .filling none with
            copy := some { copy false with stream := .capture }, fillOffset := 24 } };
        s.settled = true ∧
          (after .clock s).map (fun t => (t.captureWalker.state, t.captureWalker.closeReason, t.captureWalker.lingerAge)) =
            some (.closing, some .full, 1)) := by decide

/-- The hypotheses of `QuietExpiryClosesTheGroup`: no pending entry, one of the group (the group is owed), and a void one. -/
theorem test_meets_QuietExpiryClosesTheGroup :
    (let g : OpenGroup := { number := 255, produced := 2, lost := 0, skips := 1 };
      let s := { atDivider (running 1 0) 1 with capture := { (running 1 0).capture with
        groupNumber := 255, openGroup := some g, quietTimer := some 1 } };
      let withPending (p : PendingEntry) := { s with capture := { s.capture with pendingList := [p] } };
      s.groupLaw ∧ s.resetAsserted = false ∧
        ([pendingEntry 255 false, pendingEntry 255 true, pendingEntry 254 false].map fun p =>
            (after .quietTimerExpiry (withPending p)).map (fun t => (t.capture.owed.length, t.captureStream.fifo.length))) =
          [some (1, 0), some (0, 1), some (0, 1)] ∧ s.time.divider ≤ s.time.prescale + 1 ∧ s.capture.quietTimer = some 1 ∧
        s.capture.owed = [] ∧
        (after .quietTimerExpiry s).map (fun t => (t.capture.state, t.capture.groupNumber, t.captureStream.fifo.length)) =
          some (.stopped, 0, 1)) := by
  refine ⟨⟨?_, ?_, ?_, ?_⟩, ?_⟩
  · rintro (h | h) <;> cases h
  · intro h; cases h
  · rintro g h; cases h; rfl
  · intro h; cases h
  · decide

/-- The hypotheses of `LingerAgeClosesTheBuffer`, with the quiet timer stopped and running. -/
theorem test_meets_LingerAgeClosesTheBuffer :
    (let s0 := atDivider (eventWalkerIn .filling none true 1) 1;
      let s := { s0 with eventWalker := { s0.eventWalker with lingerAge := 2 } };
      s.settled = true ∧ s.capture.quietTimer = none ∧ s.lingerSetting .event = 3 ∧ 0 < s.eventWalker.fillOffset ∧
        (after (.lingerClose .event) s).map (fun t => (t.eventWalker.state, t.eventWalker.closeReason)) =
          some (.closing, some .linger) ∧
        (after (.lingerClose .event) { s with capture := { s.capture with quietTimer := some 5 } }).map
            (fun t => (t.eventWalker.state, t.capture.quietTimer)) = some (.closing, some 4)) := by decide

/-! ## Deliveries -/

/-- The part after reset with arguments is ready for a command. -/
theorem test_ready (a1 a2 a3 a4 a5 : Word) : (withArgs State.reset a1 a2 a3 a4 a5).ready := ⟨rfl, rfl, rfl⟩

/-- The hypotheses of `SupervisorBeatsUpdateTheShadow`: arguments 1 and 7, two beats of which the later wins its bytes, and a
user's write. -/
theorem test_meets_SupervisorBeatsUpdateTheShadow :
    (let beat (a : Word) : CompletedBeat := { address := a, enables := 0b0101, data := 0xAABBCCDD };
      (∀ i ∈ [0, 6], (beat (0x1000FF04 + BitVec.ofNat 32 (4 * i))).address.toNat =
        (State.reset.anchorSel.toNat * 0x10000000 + 0xFF00) % 2 ^ State.reset.policy.active.width + 4 * (i + 1)) ∧
        16 ≤ State.reset.policy.active.width ∧ State.reset.policy.active.width ≤ 32 ∧ State.reset.settled = true ∧
        (after (.anchorArgumentWrite { privilege := .supervisor, master := 5, beats := [beat 0x1000FF04] }) State.reset).map
            (·.command.shadow.toList) = some [0x00BB00DD, 0, 0, 0, 0, 0, 0] ∧
        (after (.anchorArgumentWrite { privilege := .supervisor, master := 5, beats := [beat 0x1000FF1C] }) State.reset).map
            (·.command.shadow.toList) = some [0, 0, 0, 0, 0, 0, 0x00BB00DD] ∧
        (after (.anchorArgumentWrite { privilege := .supervisor, master := 5, beats :=
            [beat 0x1000FF04, beat 0x1000FF08, { address := 0x1000FF04, enables := 0b0001, data := 0x11 }] }) State.reset).map
            (·.command.shadow.toList) = some [0x00BB0011, 0x00BB00DD, 0, 0, 0, 0, 0] ∧
        WriteCompletion.wellFormed { privilege := .user, master := 5, beats := [beat 0x1000FF04] } = true ∧
        after (.anchorArgumentWrite { privilege := .user, master := 5, beats := [beat 0x1000FF04] }) State.reset =
          some State.reset) := by decide

/-- The hypotheses of `RefusedDeliveryChangesOnlyItsAccount`: BUSY, PRIVILEGE and UNKNOWN, at the codes 0x00 and 0x12. -/
theorem test_meets_RefusedDeliveryChangesOnlyItsAccount :
    deliveredBy (.refresh .user) = some (.user, 0x01) ∧
      deliveredBy (.unknownCommand .supervisor 0x12) = some (.supervisor, 0x12) ∧
      deliveredBy (.unknownCommand .supervisor 0x00) = some (.supervisor, 0x00) ∧
      (counting 0 0).command.running.isSome = true ∧ (counting 0 0).settled = true ∧
      (after (.refresh .supervisor) (counting 0 0)).map (·.command.result.encode) = some 0x01000201 ∧
      (after (.refresh .user) State.reset).map (·.command.result.encode) = some 0x01000301 ∧
      (after (.unknownCommand .supervisor 0x12) State.reset).map (·.command.result.encode) = some 0x01000412 := by decide

/-- The hypotheses of `ArgumentOutOfRangeIsRefused` at the first value out of each range: every clause answers BADARG. -/
theorem test_meets_ArgumentOutOfRangeIsRefused :
    ([(Instr.loadPolicy .supervisor, withArgs State.reset 0x20 0 0 0 0), (.loadPolicy .supervisor, withArgs State.reset 0xFFFFFC00 0 0 0 0),
        (.setChain .supervisor, withArgs State.reset 2 0x10 0 0 0), (.setChain .supervisor, withArgs State.reset 0 8 0 0 0),
        (.setChainAbort .supervisor, withArgs State.reset 2 0 0 0 0), (.kick .supervisor, withArgs State.reset 2 0 0 0 0),
        (.flush .supervisor, withArgs State.reset 2 0 0 0 0), (.mark .supervisor, withArgs State.reset 2 0 0 0 0),
        (.captureStopNow .supervisor, withArgs State.reset 2 0 0 0 0)].map fun x =>
          (after x.1 x.2).map (·.command.result.result)) = List.replicate 9 (some 5) ∧
      ([(Instr.captureStart .supervisor, withArgs State.reset 3 0 0 0 0), (.captureStart .supervisor, withArgs State.reset 2 32 0 0 0),
        (.captureStart .supervisor, withArgs State.reset 0 0 65536 0 0), (.captureStart .supervisor, withArgs State.reset 0 0 0 4097 0),
        (.captureStart .supervisor, withArgs State.reset 0 0 0 0 2), (.ack .supervisor, withArgs State.reset 0x2000 0 0 0 0),
        (.noticeEnable .supervisor, withArgs State.reset 0x2000 0 0 0 0), (.stats .supervisor, withArgs State.reset 0xFFFFFFC0 0 0 0 0),
        (.stats .supervisor, withArgs State.reset 0 2 0 0 0)].map fun x =>
          (after x.1 x.2).map (·.command.result.result)) = List.replicate 9 (some 5) ∧
      ([withArgs State.reset 0 0 0 64 0, withArgs State.reset 65537 0 0 64 0, withArgs State.reset 1 65536 0 64 0,
          withArgs State.reset 1 0 65536 64 0, withArgs State.reset 1 0 0 63 0, withArgs State.reset 1 0 0 1024 0,
          withArgs State.reset 1 0 0 65 0].map fun s =>
          (after (.setTiming .supervisor) s).map (·.command.result.result)) = List.replicate 7 (some 5) := by decide

/-- The hypotheses of `WrongBlockStateIsRefused`, clause by clause. -/
theorem test_meets_WrongBlockStateIsRefused :
    (let filling := withArgs (eventWalkerIn .filling none true 1) 0 0x20 0 0 0;
      let captured := withArgs (running 1 0) 0 0 0 0 0;
      let stopping := { withArgs State.reset 1 0 0 0 0 with capture := { State.reset.capture with state := .stopping } };
      filling.settled = true ∧ captured.settled = true ∧ stopping.settled = true ∧
        (after (.commit .supervisor) State.reset).map (·.command.result.encode) = some 0x01000703 ∧
        (after (.setChain .supervisor) filling).map (·.command.result.encode) = some 0x01000605 ∧
        (after (.kick .supervisor) filling).map (·.command.result.encode) = some 0x01000606 ∧
        (after (.flush .supervisor) State.reset).map (·.command.result.encode) = some 0x01000607 ∧
        (after (.captureStart .supervisor) captured).map (·.command.result.encode) = some 0x01000608 ∧
        (after (.captureStopNow .supervisor) State.reset).map (·.command.result.encode) = some 0x01000609 ∧
        (after (.captureStopAtGroupEnd .supervisor) stopping).map (·.command.result.encode) = some 0x01000609) := by decide

/-! ## Commands carried out -/

theorem test_meets_RefreshMarksEverySectionDirty :
    (withArgs State.reset 0 0 0 0 0).ready ∧
      (after (.refresh .supervisor) State.reset).map (fun t => (t.report.dirty, t.command.result.encode)) =
        some (0xFF, 0x01000101) := ⟨test_ready .., by decide⟩

/-- LOAD_POLICY at the last image address, and DISCARD of an EMPTY and of a VALID staged table. -/
theorem test_meets_LoadAndDiscardGiveUpTheStagedPolicy :
    (let s := withArgs State.reset 0xFFFFFBC0 0 0 0 0;
      let v := { s with policy := { s.policy with staged := .valid policy } };
      s.ready ∧ v.ready ∧ (s.arg 1).toNat % 64 = 0 ∧ (s.arg 1).toNat ≤ 0xFFFFFBC0 ∧
        (after (.loadPolicy .supervisor) s).map (fun t => (t.policy.staged, t.stands .command)) = some (.loading, true) ∧
        (after (.discard .supervisor) s).map (fun t => (t.policy.staged, t.report.dirty)) = some (.empty, 0x03) ∧
        (after (.discard .supervisor) v).map (fun t => (t.policy.staged, t.report.dirty)) = some (.empty, 0x43)) := by
  refine ⟨⟨rfl, rfl, rfl⟩, ⟨rfl, rfl, rfl⟩, ?_⟩
  decide

theorem test_meets_CommitSwapsTheTables :
    (let s := { State.reset with policy := { State.reset.policy with staged := .valid policy } };
      s.ready ∧ s.policy.staged = .valid policy ∧
        (after (.commit .supervisor) s).map
            (fun t => (t.policy.active, t.policy.staged, t.policy.commitCount, t.eventStream.fifo)) =
          some (policy, .valid (resetPolicy .closedStart), 1, [.commit 1 1 0])) := by
  refine ⟨⟨rfl, rfl, rfl⟩, ?_⟩
  decide

theorem test_meets_SetChainStartsTheWalker :
    (withArgs State.reset 1 0x10 0 0 0).ready ∧ (State.reset.walker .capture).state = .idle ∧
      (after (.setChain .supervisor) (withArgs State.reset 1 0x10 0 0 0)).map
          (fun t => (t.captureWalker.state, t.captureWalker.current, t.report.dirty)) = some (.fetching, 0x10, 0x13) :=
  ⟨test_ready .., rfl, by decide⟩

/-- The hypotheses of `AbortCompletesOrClosesFirst`: a walker that owes nothing, with one record in its FIFO, a part-filled
buffer at rest, and a transaction in flight. -/
theorem test_meets_AbortCompletesOrClosesFirst :
    (let owing (s : State) := withArgs { s with
        eventStream := { fifo := [.eventMark 1 2], lost := 0, saturated := false } } 0 0 0 0 0;
      (owing State.reset).ready ∧ (owing (eventWalkerIn .filling none true 1)).ready ∧
        (owing (eventWalkerIn .fetching (some .fetch) false 4)).ready ∧
        (after (.setChainAbort .supervisor) (owing State.reset)).map
            (fun t => (t.command.result.encode, t.eventStream.fifo.length, t.eventStream.lost, t.eventWalker.state)) =
          some (0x01000105, 0, 1, .idle) ∧
        (after (.setChainAbort .supervisor) (owing (eventWalkerIn .filling none true 1))).map
            (fun t => (t.command.running.isSome, t.eventWalker.state, t.eventWalker.closeReason)) =
          some (true, .aborting, some .abort) ∧
        (after (.setChainAbort .supervisor) (owing (eventWalkerIn .fetching (some .fetch) false 4))).map
            (fun t => (t.command.running.isSome, t.eventWalker.state, t.eventWalker.closeReason)) =
          some (true, .aborting, none)) := by
  refine ⟨⟨rfl, rfl, by decide⟩, ⟨rfl, rfl, by decide⟩, ⟨rfl, rfl, by decide⟩, ?_⟩
  decide

/-- The hypotheses of `KickRefetchesAWaitingWalker`; its refusals are in the tests above. -/
theorem test_meets_KickRefetchesAWaitingWalker :
    (eventWalkerIn .waiting none true 1).ready ∧ ((eventWalkerIn .waiting none true 1).walker .event).state = .waiting ∧
      (after (.kick .supervisor) (eventWalkerIn .waiting none true 1)).map
          (fun t => (t.eventWalker.state, t.command.result.encode)) = some (.fetching, 0x01000106) := by
  refine ⟨⟨rfl, rfl, rfl⟩, ?_⟩
  decide

/-- The hypotheses of `FlushCountsTheRecordsPresent`: one record to come, none over a part-filled buffer, and none over an
empty one. -/
theorem test_meets_FlushCountsTheRecordsPresent :
    (let s := eventWalkerIn .filling none true 1;
      let more := { s with eventStream := { fifo := [.eventMark 1 2], lost := 0, saturated := false } };
      let empty := { s with eventWalker := { s.eventWalker with fillOffset := 0 } };
      s.ready ∧ s.bufferLaw ∧ more.ready ∧ empty.ready ∧
        (after (.flush .supervisor) more).map (fun t => (t.command.running.isSome, t.eventWalker.flushCount)) =
          some (true, some 1) ∧
        (after (.flush .supervisor) s).map (fun t => (t.eventWalker.state, t.eventWalker.closeReason)) =
          some (.closing, some .flush) ∧
        (after (.flush .supervisor) empty).map (fun t => (t.eventWalker.state, t.command.result.encode)) =
          some (.filling, 0x01000107)) := by
  refine ⟨⟨rfl, rfl, by decide⟩, test_bufferLaw _ _ _ _ (by intro rs h; cases h) (by intro x h; cases h),
    ⟨rfl, rfl, by decide⟩,
    ⟨rfl, rfl, by decide⟩, ?_⟩
  decide

/-- The hypotheses of `CaptureStartBeginsASession`: IMMEDIATE, and ON_ENTRY at entry 31 with each other argument at its
last value. -/
theorem test_meets_CaptureStartBeginsASession :
    (withArgs State.reset 2 31 65535 4096 1).ready ∧ State.reset.capture.state = .stopped ∧
      (after (.captureStart .supervisor) (withArgs State.reset 2 31 65535 4096 1)).map
          (fun t => (t.capture.state, t.capture.trigger.entry, t.eventStream.fifo.length, t.notices.raw)) =
        some (.armed, 31, 1, 0xC00) ∧
      (after (.captureStart .supervisor) (withArgs State.reset 0 32 0 0 0)).map
          (fun t => (t.capture.state, t.capture.trigger.entry, t.command.result.encode)) =
        some (.running, 0, 0x01000108) := ⟨test_ready .., rfl, by decide⟩

/-- The hypotheses of `CaptureStopEndsTheSession`: NOW with a group open, and AT_GROUP_END with and without one. -/
theorem test_meets_CaptureStopEndsTheSession :
    (let grouped (a : Word) := withArgs { running 1 0 with capture := { (running 1 0).capture with
        openGroup := some { number := 0, produced := 1, lost := 0, skips := 0 } } } a 0 0 0 0;
      (grouped 0).ready ∧ (grouped 1).ready ∧ (withArgs (running 1 0) 1 0 0 0 0).ready ∧ (grouped 0).groupLaw ∧
        (after (.captureStopNow .supervisor) (grouped 0)).map
            (fun t => (t.capture.state, t.capture.groupNumber, t.command.result.encode)) = some (.stopped, 1, 0x01000109) ∧
        (after (.captureStopNow .supervisor) { grouped 0 with capture :=
            { (grouped 0).capture with pendingList := [pendingEntry 0 false] } }).map
            (fun t => (t.capture.owed.map (·.number), t.captureStream.fifo.length, t.eventStream.fifo.length)) =
          some ([0], 0, 1) ∧
        (after (.captureStopAtGroupEnd .supervisor) (grouped 1)).map
            (fun t => (t.capture.state, t.capture.groupNumber, t.command.result.encode)) = some (.stopping, 0, 0x01000109) ∧
        (after (.captureStopAtGroupEnd .supervisor) (withArgs (running 1 0) 1 0 0 0 0)).map
            (fun t => (t.capture.state, t.command.result.encode)) = some (.stopped, 0x01000109)) := by
  refine ⟨⟨rfl, rfl, rfl⟩, ⟨rfl, rfl, rfl⟩, ⟨rfl, rfl, rfl⟩, ⟨?_, ?_, ?_, ?_⟩, ?_⟩
  · rintro (h | h) <;> cases h
  · intro h; cases h
  · rintro g h; cases h; rfl
  · intro _; rfl
  · decide

/-- The hypotheses of `MarkIsOfferedToTheNamedStream` for either stream, and for a MARK that finds no room. -/
theorem test_meets_MarkIsOfferedToTheNamedStream :
    (withArgs State.reset 1 7 0 0 0).ready ∧
      (after (.mark .supervisor) (withArgs State.reset 0 7 0 0 0)).map (·.eventStream.fifo) = some [.eventMark 7 0] ∧
      (after (.mark .supervisor) (withArgs State.reset 1 7 0 0 0)).map (·.captureStream.fifo) = some [.captureMark 7 0] ∧
      (let s := withArgs (withEvents 32) 0 7 0 0 0;
        s.ready ∧ (after (.mark .supervisor) s).map
          (fun t => (t.eventStream.lost, t.isRaised .eventLoss, t.isDirty .eventStream)) = some (1, true, true)) :=
  ⟨test_ready .., by decide, by decide, ⟨rfl, rfl, by decide⟩, by decide⟩

/-- The hypotheses of `AckClearsTheNamedNotices` at the widest mask. -/
theorem test_meets_AckClearsTheNamedNotices :
    (withArgs State.reset 0x1FFF 0 0 0 0).ready ∧ ((withArgs State.reset 0x1FFF 0 0 0 0).arg 1).toNat < 2 ^ 13 ∧
      (after (.ack .supervisor) { withArgs State.reset 0x1FFF 0 0 0 0 with
          notices := { raw := 0x3, enable := 0, published := 0x3, line := false } }).map
          (fun t => (t.notices.raw, t.notices.published, t.report.dirty)) = some (0, 0x3, 0x03) :=
  ⟨test_ready .., by decide⟩

/-- The hypotheses of `NoticeEnableAndForceNoticeActAtOnce`. -/
theorem test_meets_NoticeEnableAndForceNoticeActAtOnce :
    (withArgs State.reset 0x1FFF 0 0 0 0).ready ∧
      (after (.noticeEnable .supervisor) { withArgs State.reset 0x1FFF 0 0 0 0 with
          notices := { raw := 0x3, enable := 0, published := 0x3, line := false } }).map
          (fun t => (t.notices.enable, t.notices.line)) = some (0x1FFF, true) ∧
      (after (.forceNotice .supervisor) State.reset).map (fun t => (t.notices.raw, t.report.dirty)) = some (0x1400, 0x03) :=
  ⟨test_ready .., by decide⟩

theorem test_meets_ClearDenialsEmptiesTheAccount :
    (withArgs State.reset 0 0 0 0 0).ready ∧
      (after (.clearDenials .supervisor) { State.reset with
          denial := { latch := none, more := true, sticky := 0b100, defaultCount := 3 } }).map
          (fun t => (t.denial.more, t.denial.sticky, t.denial.defaultCount, t.report.dirty)) =
        some (false, 0, 3, 0x07) := ⟨test_ready .., by decide⟩

/-- The hypotheses of `StatsTakesTheSnapshot` at the last area, with a saturated count. -/
theorem test_meets_StatsTakesTheSnapshot :
    (let s := withArgs { State.reset with denial := { State.reset.denial with defaultCount := 65535 } } 0xFFFFFF80 1 0 0 0;
      s.ready ∧ (s.arg 1).toNat % 64 = 0 ∧ (s.arg 1).toNat ≤ 0xFFFFFF80 ∧ (s.arg 2).toNat ≤ 1 ∧
        (after (.stats .supervisor) s).map
            (fun t => (t.command.stats.map (fun g => (g.default, g.saturated)), t.denial.defaultCount,
              t.command.running.isSome)) = some (some (65535, true), 0, true)) := by
  refine ⟨⟨rfl, rfl, rfl⟩, ?_⟩
  decide

/-- The hypotheses of `SetTimingSetsTheFourValues` at the ends of each range, with a buffer whose linger age the new setting
reaches. -/
theorem test_meets_SetTimingSetsTheFourValues :
    (let s0 := eventWalkerIn .filling none true 1;
      let s := withArgs { s0 with eventWalker := { s0.eventWalker with lingerAge := 4 } } 65536 4 65535 1008 0;
      s.ready ∧ (withArgs State.reset 1 65535 0 64 0).ready ∧
        (after (.setTiming .supervisor) s).map
            (fun t => (t.time.divider, t.time.captureUrgent, t.eventWalker.state, t.eventWalker.closeReason)) =
          some (65536, 1008, .closing, some .linger) ∧
        (after (.setTiming .supervisor) (withArgs State.reset 1 65535 0 64 0)).map
            (fun t => (t.time.divider, t.time.eventLinger, t.time.captureUrgent)) = some (1, 65535, 64)) := by
  refine ⟨⟨rfl, rfl, by decide⟩, test_ready .., ?_⟩
  decide

/-- The hypotheses of `RecordResetRestartsTheRecordingSide`: a walker's transaction in flight is voided. -/
theorem test_meets_RecordResetRestartsTheRecordingSide :
    (eventWalkerIn .fetching (some .fetch) false 4).ready ∧
      (after (.recordReset .supervisor) (eventWalkerIn .fetching (some .fetch) false 4)).map
          (fun t => (t.eventWalker, t.arbiter.issued.map (·.voided), t.notices.raw)) =
        some (.reset, [true], 0x400) := ⟨⟨rfl, rfl, rfl⟩, by decide⟩

/-! ## Layouts and invariants -/

/-- The status word of 256 bytes closed by FLUSH with a GAP (R173), a CHAIN_FAULT, a SHORT record, and the notices section. -/
theorem test_meets_LayoutsPutFieldsAtTheirBits :
    (256 < 2 ^ 21) ∧ statusWord .flush true 256 = 0x0001001A ∧ statusWord .full false 32 = 0x00002002 ∧
      (Record.chainFault .capture .badLink 0x40 9).encode = [0x00000B0F, 0x40, 9, 0] ∧
      (Record.short 0x204 .write .user 3 2 0x55 0xBEEF).encode = [0x206, 0xBEEF5517] ∧
      ({ State.reset with report := { dirty := 0, inFlight := none, fault := true } } : State).sectionWords .notices =
        [0, 0, 1] := by decide

/-- The invariants have states that take a step: the part after reset with an event waiting meets every one of them. -/
theorem test_meets_EveryStep :
    (let s := { State.reset with pending := [.clock] };
      s.queueLaw ∧ s.pendingLaw ∧ s.streamLaw ∧ s.arbiterLaw ∧ s.lineLaw ∧ s.groupLaw ∧ s.bufferLaw ∧ s.ownerLaw ∧
        s.tableLaw ∧ s.counterLaw ∧ s.settled = true ∧ ∃ t, step s = .next t ∧ t.time.tick = 1) := by
  simp only
  refine ⟨?_, ?_, ?_, ?_, ?_, ?_, ?_, ?_, ?_, ?_, rfl, _, rfl, rfl⟩
  all_goals simp [State.reset, State.resetValues, State.queueLaw, State.pendingLaw, State.streamLaw, State.arbiterLaw,
    State.tableLaw, State.counterLaw, State.lineLaw, State.groupLaw, State.bufferLaw, State.ownerLaw, RecordStream.reset,
    Walker.reset, Walker.bufferLaw, resetPolicy, Policy.valid]

end Sys2Proof.Tests
end

section
/-! SUPPORT. What judging a request answers, step by step in the manual's words (R11): one equation per check that ends the
decision, and the two ways past the SEGMENT check. -/

namespace Sys2Proof.Machine

/-- A request that can be sent has a beat. -/
theorem Request.one_le_beats_of_wellFormed {r : Request} (h : r.wellFormed = true) : 1 ≤ r.beats := by
  simp only [Request.wellFormed, Bool.and_eq_true, decide_eq_true_eq] at h
  obtain ⟨⟨hone, -⟩, -⟩ := h
  exact hone

/-- R21: the model's eligibility reads the capture-kind bits of R172. -/
theorem RegionEntry.eligibility_eq_captureTerms (e : RegionEntry) (k : AccessKind) :
    e.eligibility k = e.captureTerms k := by
  cases k <;> rfl

section Checks
variable {p : Policy} {buffers : List DescriptorCopy} {r : Request}

/-! ## Steps 1 to 3: denials before lookup -/

theorem judge_of_formatCheckFails (hf : FormatCheckFails p r) :
    p.judge buffers r = (p.deniesByDefault .format, none) :=
  if_pos ((formatFails_iff p r).2 hf)

theorem judge_of_aliasCheckFails (hf : ¬ FormatCheckFails p r) (ha : AliasCheckFails p r) :
    p.judge buffers r = (p.deniesByDefault .aliased, none) := by
  rw [← formatFails_iff] at hf
  rw [← aliasFails_iff] at ha
  rw [Policy.judge, if_neg hf, if_pos ha]
  rfl

theorem judge_of_segmentCheckFails (hf : ¬ FormatCheckFails p r) (ha : ¬ AliasCheckFails p r)
    (hs : SegmentCheckFails p r) : p.judge buffers r = (p.deniesByDefault .segment, none) := by
  rw [← formatFails_iff] at hf
  rw [← aliasFails_iff] at ha
  rw [← segmentFails_iff] at hs
  rw [Policy.judge, if_neg hf, if_neg ha, if_pos hs]
  rfl

/-! ## Step 4: lookup -/

theorem judge_of_decidingEntry (hf : ¬ FormatCheckFails p r) (ha : ¬ AliasCheckFails p r) (hs : ¬ SegmentCheckFails p r)
    {k : Nat} {e : RegionEntry} (hd : DecidingEntry p r k e) :
    p.judge buffers r = (p.judgeFound buffers r e, some k) := by
  rw [← formatFails_iff] at hf
  rw [← aliasFails_iff] at ha
  rw [← segmentFails_iff] at hs
  have hlookup : p.lookup r = some k := (lookup_eq_some_iff p r k).2 ⟨e, hd⟩
  obtain ⟨hentry, -, -⟩ := hd
  rw [Policy.judge, if_neg hf, if_neg ha, if_neg hs]
  simp only [hlookup, hentry]

theorem judge_of_noDecidingEntry (hf : ¬ FormatCheckFails p r) (ha : ¬ AliasCheckFails p r)
    (hs : ¬ SegmentCheckFails p r) (hn : NoDecidingEntry p r) :
    p.judge buffers r = (p.judgeDefault buffers r, none) := by
  rw [← formatFails_iff] at hf
  rw [← aliasFails_iff] at ha
  rw [← segmentFails_iff] at hs
  have hlookup : p.lookup r = none := (lookup_eq_none_iff p r).2 hn
  rw [Policy.judge, if_neg hf, if_neg ha, if_neg hs]
  simp only [hlookup]

/-- R15: lookup never fails; it selects the deciding entry or NONE. -/
theorem exists_decidingEntry_or_noDecidingEntry (p : Policy) (r : Request) :
    (∃ k e, DecidingEntry p r k e) ∨ NoDecidingEntry p r := by
  cases hlookup : p.lookup r with
  | some k => exact .inl ⟨k, (lookup_eq_some_iff p r k).1 hlookup⟩
  | none => exact .inr ((lookup_eq_none_iff p r).1 hlookup)

/-! ## Steps 5 to 7 under a deciding entry -/

theorem judgeFound_of_straddleCheckFails {e : RegionEntry} (ht : StraddleCheckFails p r e) :
    p.judgeFound buffers r e = e.denies .straddle :=
  if_pos ((straddleFails_iff p r e).2 ht)

theorem judgeFound_of_bufferCheckFails (hone : 1 ≤ r.beats) (hf : ¬ FormatCheckFails p r) {e : RegionEntry}
    (ht : ¬ StraddleCheckFails p r e) (hb : BufferCheckFails p buffers r) :
    p.judgeFound buffers r e = p.deniesByDefault .buffer := by
  rw [← straddleFails_iff] at ht
  rw [← bufferFails_iff p buffers r hone hf] at hb
  rw [Policy.judgeFound, if_neg ht, if_pos hb]
  rfl

/-- R18: past STRADDLE and BUFFER the entry's permission flag decides. -/
theorem judgeFound_of_permissionFlag (hone : 1 ≤ r.beats) (hf : ¬ FormatCheckFails p r) {e : RegionEntry}
    (ht : ¬ StraddleCheckFails p r e) (hb : ¬ BufferCheckFails p buffers r) :
    p.judgeFound buffers r e =
      if permissionFlag e.permissions r.privilege r.kind then .pass (e.captureTerms r.kind) else e.denies .permission := by
  rw [← straddleFails_iff] at ht
  rw [← bufferFails_iff p buffers r hone hf] at hb
  rw [Policy.judgeFound, if_neg ht, if_neg hb, permits_eq, e.eligibility_eq_captureTerms]
  cases permissionFlag e.permissions r.privilege r.kind <;> rfl

/-! ## Steps 6 and 7 under the default rule -/

theorem judgeDefault_of_bufferCheckFails (hone : 1 ≤ r.beats) (hf : ¬ FormatCheckFails p r)
    (hb : BufferCheckFails p buffers r) : p.judgeDefault buffers r = p.deniesByDefault .buffer :=
  if_pos ((bufferFails_iff p buffers r hone hf).2 hb)

/-- R18: past BUFFER the default rule's permission flag decides. -/
theorem judgeDefault_of_permissionFlag (hone : 1 ≤ r.beats) (hf : ¬ FormatCheckFails p r)
    (hb : ¬ BufferCheckFails p buffers r) :
    p.judgeDefault buffers r =
      if permissionFlag p.defaultRule.permissions r.privilege r.kind then .pass none
      else p.deniesByDefault .permission := by
  rw [← bufferFails_iff p buffers r hone hf] at hb
  rw [Policy.judgeDefault, if_neg hb, permits_eq]
  cases permissionFlag p.defaultRule.permissions r.privilege r.kind <;> rfl

/-! ## The kinds that steps 5 to 7 can name -/

theorem kind_of_judgeFound_eq_deny {e : RegionEntry} {t : DenialTerms} (h : p.judgeFound buffers r e = .deny t) :
    t.kind = .straddle ∨ t.kind = .buffer ∨ t.kind = .permission := by
  unfold Policy.judgeFound at h
  split at h
  case isTrue => cases h; exact .inl rfl
  split at h
  case isTrue => cases h; exact .inr (.inl rfl)
  split at h
  case isTrue => cases h; exact .inr (.inr rfl)
  case isFalse => cases h

theorem kind_of_judgeDefault_eq_deny {t : DenialTerms} (h : p.judgeDefault buffers r = .deny t) :
    t.kind = .buffer ∨ t.kind = .permission := by
  unfold Policy.judgeDefault at h
  split at h
  case isTrue => cases h; exact .inl rfl
  split at h
  case isTrue => cases h; exact .inr rfl
  case isFalse => cases h

/-- R13: no check but ALIAS names the kind ALIAS. -/
theorem aliasCheckFails_of_judge_eq_deny {t : DenialTerms} (h : (p.judge buffers r).1 = .deny t)
    (hkind : t.kind = .aliased) : AliasCheckFails p r := by
  by_contra ha
  by_cases hf : FormatCheckFails p r
  · rw [judge_of_formatCheckFails hf] at h
    cases h; cases hkind
  by_cases hs : SegmentCheckFails p r
  · rw [judge_of_segmentCheckFails hf ha hs] at h
    cases h; cases hkind
  obtain ⟨k, e, hd⟩ | hn := exists_decidingEntry_or_noDecidingEntry p r
  · rw [judge_of_decidingEntry hf ha hs hd] at h
    have := kind_of_judgeFound_eq_deny h
    simp [hkind] at this
  · rw [judge_of_noDecidingEntry hf ha hs hn] at h
    have := kind_of_judgeDefault_eq_deny h
    simp [hkind] at this

/-- R13: in FOLD mode, or with W = 32, the ALIAS check does not fail. -/
theorem not_aliasCheckFails_of_fold_or_width (h : p.fold = .fold ∨ p.width = 32) : ¬ AliasCheckFails p r := by
  rintro ⟨hstrict, bit, hbit, hset⟩
  obtain hfold | hwidth := h
  · rw [hstrict] at hfold
    cases hfold
  · rw [BitVec.getLsbD_of_ge _ _ (hwidth ▸ hbit)] at hset
    cases hset

end Checks

/-! ## The statements -/

/-- Settles O5: each clause is the equation of the step it ends at. -/
theorem firstFailingCheckNamesTheDenial : Obligations.FirstFailingCheckNamesTheDenial := by
  intro p buffers r hwf
  have hone : 1 ≤ r.beats := Request.one_le_beats_of_wellFormed hwf
  refine ⟨fun hf => ?format, fun hf ha => ?aliased, fun hf ha hs => ?segment, fun hf ha hs =>
    ⟨fun k e hd => ?found, fun hn => ?default⟩⟩
  case format => rw [judge_of_formatCheckFails hf]
  case aliased => rw [judge_of_aliasCheckFails hf ha]
  case segment => rw [judge_of_segmentCheckFails hf ha hs]
  case found =>
    rw [judge_of_decidingEntry hf ha hs hd]
    refine ⟨judgeFound_of_straddleCheckFails, judgeFound_of_bufferCheckFails hone hf, fun ht hb hflag => ?_,
      fun ht hb hflag => ?_⟩
    all_goals simp [judgeFound_of_permissionFlag hone hf ht hb, hflag]
  case default =>
    rw [judge_of_noDecidingEntry hf ha hs hn]
    refine ⟨judgeDefault_of_bufferCheckFails hone hf, fun hb hflag => ?_, fun hb hflag => ?_⟩
    all_goals simp [judgeDefault_of_permissionFlag hone hf hb, hflag]

/-- Settles O6: the ALIAS check alone names the kind, and its answer is `judge_of_aliasCheckFails`. -/
theorem aliasDenialNeedsStrictFoldAndHighBit : Obligations.AliasDenialNeedsStrictFoldAndHighBit := by
  intro p buffers r hf
  refine ⟨⟨?needs, ?denied⟩, ?never, ?terms⟩
  case needs =>
    rintro ⟨t, h, hkind⟩
    exact aliasCheckFails_of_judge_eq_deny h hkind
  case denied =>
    intro ha
    exact ⟨p.defaultDenial .aliased, congrArg Prod.fst (judge_of_aliasCheckFails hf ha), rfl⟩
  case never =>
    intro hopen t h hkind
    exact not_aliasCheckFails_of_fold_or_width hopen (aliasCheckFails_of_judge_eq_deny h hkind)
  case terms =>
    intro t h hkind
    have hjudge := judge_of_aliasCheckFails (buffers := buffers) hf (aliasCheckFails_of_judge_eq_deny h hkind)
    rw [hjudge] at h ⊢
    cases h
    exact ⟨rfl, rfl, rfl, rfl⟩

end Sys2Proof.Machine
end

section
/-! SUPPORT. What putting a denial unit in place does, and what CLEAR_DENIALS makes of the denial unit (R46, R53). -/

namespace Sys2Proof.Machine

/-! ## The denial section's dirty flag (R53) -/

/-- `setDenial` as one update: the section is dirty if its content changed. -/
theorem State.setDenial_eq (s : State) (u : DenialUnit) :
    s.setDenial u = { s with
      denial := u
      report := { s.report with
        dirty := if u.sectionContent = s.denial.sectionContent then s.report.dirty else s.report.dirty ||| 0x04 } } := by
  rw [State.setDenial, State.markDirtyIf_eq]
  by_cases hsame : u.sectionContent = s.denial.sectionContent
  · simp [hsame]
  · simp only [bne_iff_ne, hsame, ne_eq, not_false_eq_true, if_true, if_false]
    rfl

/-- The command count and the denial unit are apart: either may be changed first. -/
theorem State.setDenial_counted (s : State) (u : DenialUnit) : s.counted.setDenial u = (s.setDenial u).counted := by
  simp only [State.setDenial_eq]
  rfl

/-! ## The emptied account (R46) -/

/-- What CLEAR_DENIALS leaves of the denial unit (`bodyClearDenials_counted`): the default rule's count alone. -/
def DenialUnit.emptied (u : DenialUnit) : DenialUnit := { u with latch := none, more := false, sticky := 0 }

/-- R53: emptying changes the section's content unless all three parts were empty. -/
theorem DenialUnit.sectionContent_emptied_eq_iff (u : DenialUnit) :
    u.emptied.sectionContent = u.sectionContent ↔ u.latch = none ∧ u.more = false ∧ u.sticky = 0 := by
  simp only [DenialUnit.emptied, DenialUnit.sectionContent, Prod.mk.injEq, eq_comm]

theorem State.setDenial_emptied (s : State) :
    s.setDenial s.denial.emptied = { s with
      denial := { latch := none, more := false, sticky := 0, defaultCount := s.denial.defaultCount }
      report := { s.report with
        dirty := if s.denial.latch = none ∧ s.denial.more = false ∧ s.denial.sticky = 0 then s.report.dirty
                 else s.report.dirty ||| 0x04 } } := by
  simp only [State.setDenial_eq, DenialUnit.sectionContent_emptied_eq_iff]
  rfl

/-! ## The command -/

/-- The row of CLEAR_DENIALS is a delivery at the command unit. -/
theorem exec_clearDenials (p : Privilege) (s : State) :
    exec (.clearDenials p) s = event s.live (deliverCommand .clearDenials p) s := rfl

/-- R46: the command's own stages empty the account and answer DONE. -/
theorem bodyClearDenials_counted (s : State) :
    bodyClearDenials (s.command.count + 1) s.counted = (s.setDenial s.denial.emptied).completed 0x0E 1 := by
  have hcount : (s.setDenial s.denial.emptied).command.count = s.command.count := by simp
  calc bodyClearDenials (s.command.count + 1) s.counted
      = (s.counted.setDenial s.denial.emptied).answer .clearDenials .done (s.command.count + 1) := rfl
    _ = (s.setDenial s.denial.emptied).counted.setResult 0x0E .done 0
          ((s.setDenial s.denial.emptied).command.count + 1) := by rw [State.setDenial_counted, hcount]; rfl
    _ = (s.setDenial s.denial.emptied).completed 0x0E 1 := State.setResult_counted _ _ .done

/-- Settles O46: the command's own stages empty the account, and the judgement that ends the event reads nothing of it. -/
theorem clearDenialsEmptiesTheAccount : Obligations.ClearDenialsEmptiesTheAccount := by
  intro s hready
  rw [exec_clearDenials, ← State.setDenial_emptied]
  apply event_command_of_frame hready .clearDenials (bodyClearDenials_counted s)
  all_goals simp [State.completed]

end Sys2Proof.Machine
end

section
/-! SUPPORT. What moving a walker to another state does to its report section, and what KICK makes of a walker (R106). -/

namespace Sys2Proof.Machine

/-! ## A walker's move (R94) -/

/-- A walker that is moved to another state marks its stream's report section dirty. -/
theorem State.moveWalker_of_state_ne {s : State} {i : StreamId} {w : Walker} (h : w.state ≠ (s.walker i).state) :
    s.moveWalker i w = State.setWalker { s with
      report := { s.report with dirty := s.report.dirty ||| (if i = .event then 0x08 else 0x10) } } i w := by
  rw [State.moveWalker, decide_eq_true h]
  cases i <;> rfl

@[simp] theorem State.walker_counted (s : State) (i : StreamId) : s.counted.walker i = s.walker i := by
  cases i <;> rfl

/-- The command count and the walkers are apart: either may be changed first. -/
theorem State.refetch_counted (s : State) (i : StreamId) : s.counted.refetch i = (s.refetch i).counted := by
  simp only [State.refetch, State.moveWalker, State.markDirtyIf_eq]
  cases i <;> rfl

/-! ## The refetch (R106) -/

/-- A walker that refetches is not FILLING, and the other is as it was: no close or flush condition begins to hold. -/
theorem State.settled_refetch {s : State} (h : s.settled = true) (i : StreamId) : (s.refetch i).settled = true := by
  apply State.settled_of_walker i h
  · simp [State.refetch]
  · intro j hj
    have htime : (s.refetch i).time = s.time := by simp [State.refetch]
    exact ⟨by simp [State.refetch, hj], by simp [State.refetch], State.lingerSetting_congr htime j⟩

/-! ## The command's own stages -/

/-- The row of KICK is a delivery at the command unit. -/
theorem exec_kick (p : Privilege) (s : State) : exec (.kick p) s = event s.live (deliverCommand .kick p) s := rfl

theorem bodyKick_of_no_stream {s : State} (h : streamArg (s.arg 1) = none) (n : BitVec 8) :
    bodyKick n s = s.answer .kick .badarg n := by
  simp only [bodyKick, h]

theorem bodyKick_of_waiting {s : State} {i : StreamId} (h : streamArg (s.arg 1) = some i)
    (hw : (s.walker i).state = .waiting) (n : BitVec 8) : bodyKick n s = (s.refetch i).answer .kick .done n := by
  simp only [bodyKick, h, hw, if_true]

theorem bodyKick_of_not_waiting {s : State} {i : StreamId} (h : streamArg (s.arg 1) = some i)
    (hw : (s.walker i).state ≠ .waiting) (n : BitVec 8) : bodyKick n s = s.answer .kick .state n := by
  simp only [bodyKick, h, hw, if_false]

/-- R106: at the delivery, a WAITING walker refetches, and the account of the command is the one of DONE. -/
theorem bodyKick_counted_of_waiting {s : State} {i : StreamId} (h : streamArg (s.arg 1) = some i)
    (hw : (s.walker i).state = .waiting) :
    bodyKick (s.command.count + 1) s.counted = (s.refetch i).completed 0x06 1 := by
  have hcount : (s.refetch i).command.count = s.command.count := by simp [State.refetch]
  calc bodyKick (s.command.count + 1) s.counted
      = (s.counted.refetch i).answer .kick .done (s.command.count + 1) :=
        bodyKick_of_waiting (by simpa using h) (by simpa using hw) _
    _ = (s.refetch i).counted.setResult 0x06 .done 0 ((s.refetch i).command.count + 1) := by
        rw [State.refetch_counted, hcount]; rfl
    _ = (s.refetch i).completed 0x06 1 := State.setResult_counted _ _ .done

/-- Settles O39: the delivery takes one of the three branches of the command's own stages, and in none of them does the
judgement that ends the event find a condition that holds. -/
theorem kickRefetchesAWaitingWalker : Obligations.KickRefetchesAWaitingWalker := by
  intro s hready
  have ⟨_, _, hsettled⟩ := hready
  rw [exec_kick]
  refine ⟨fun harg => ?badarg, fun i harg => ⟨fun hw => ?waiting, fun hw => ?refused⟩⟩
  case badarg =>
    exact event_command_answered hready .kick .badarg
      (bodyKick_of_no_stream ((streamArg_eq_none_iff (s.counted.arg 1)).2 harg) _)
  case waiting =>
    have hi : streamArg (s.arg 1) = some i := (streamArg_eq_some_iff _ i).2 harg
    have hmove : s.refetch i = _ := State.moveWalker_of_state_ne (by simp [hw])
    have hbody : Command.kick.body (s.command.count + 1) s.counted = (s.refetch i).completed 0x06 1 :=
      bodyKick_counted_of_waiting hi hw
    have hstay : ((s.refetch i).completed 0x06 1).settle = (s.refetch i).completed 0x06 1 :=
      State.settle_of_settled (State.settled_refetch hsettled i)
    rw [← hmove, event_command hready, hbody, hstay]
  case refused =>
    have hi : streamArg (s.counted.arg 1) = some i := (streamArg_eq_some_iff _ i).2 harg
    exact event_command_answered hready .kick .state (bodyKick_of_not_waiting hi (by simpa using hw) _)

end Sys2Proof.Machine
end

section
/-! SUPPORT. MEMORY_GRANT: the winner is the first rank that stands (R121), a grant to a standing requester issues one
transaction of its own (R122), and the run count after it. -/

namespace Sys2Proof.Machine

/-! ## The winner (R121) -/

/-- Each rank asks for its requester's request, so a requester can win only with a request standing. -/
theorem State.stands_of_winner {s : State} {w : Requester} (h : s.winner = some w) : s.stands w = true := by
  unfold State.winner at h
  repeat' split at h
  all_goals simp_all

theorem State.winner_eq_none_of_no_request {s : State} (h : ∀ w, s.stands w = false) : s.winner = none := by
  cases hw : s.winner with
  | none => rfl
  | some w => exact absurd (State.stands_of_winner hw) (by simp [h w])

/-- Up to the limit of the run count, PASS yields at the limit alone. -/
theorem State.passYields_eq {s : State} (h : s.arbiter.fairness ≤ 8) :
    s.passYields = (decide (s.arbiter.fairness = 8) && s.internalStands) := by
  have hlimit : Config.fairnessLimit ≤ s.arbiter.fairness ↔ s.arbiter.fairness = 8 := by
    simp only [Config.fairnessLimit]
    omega
  simp only [State.passYields, hlimit]

/-- The first line of a table of ranks wins if it stands, and else the rest of the table decides. -/
theorem firstStanding_cons {α : Type} (stands : Bool) (r : α) (ranks : List (Bool × α)) :
    (((stands, r) :: ranks).find? (·.1)).map (·.2) = if stands then some r else (ranks.find? (·.1)).map (·.2) := by
  cases stands <;> rfl

theorem State.winner_eq_firstStanding {s : State} (h : s.arbiter.fairness ≤ 8) :
    s.winner = (s.ranks.find? (·.1)).map (·.2) := by
  unfold State.winner State.ranks
  simp only [firstStanding_cons, State.passYields_eq h]
  rfl

/-! ## The run count (R121) -/

theorem State.fairnessAfter_eq (s : State) (r : Requester) :
    s.fairnessAfter r =
      if r = .pass ∧ s.internalStands = true then min 8 (s.arbiter.fairness + 1) else 0 := by
  cases r <;> simp [State.fairnessAfter, Config.fairnessLimit]

/-! ## The transaction of a grant (R122) -/

/-- Dirty flags that are not all clear name a section. -/
theorem State.exists_dirty_section {s : State} (h : s.report.dirty ≠ 0) : ∃ c ∈ Section.all, s.isDirty c = true := by
  by_contra hclean
  push Not at hclean
  have hbit : ∀ c ∈ Section.all, s.report.dirty.getLsbD c.index = false := by simpa [State.isDirty] using hclean
  have hindex : ∀ i < 8, ∃ c ∈ Section.all, c.index = i := by decide
  refine h (BitVec.eq_of_getLsbD_eq fun i hi => ?_)
  obtain ⟨c, hc, rfl⟩ := hindex i hi
  simpa using hbit c hc

/-- The issue list after an issue depends on the arbiter only. -/
theorem State.issue_arbiter_congr {s t : State} (h : t.arbiter = s.arbiter) (r : Requester) (q : Request) :
    (t.issue r q).arbiter = (s.issue r q).arbiter := by
  simp only [State.issue_arbiter, h]

theorem State.grantPass_issues {s : State} (h : s.stands .pass = true) :
    ∃ q, s.grantPass.arbiter = (s.issue .pass q).arbiter := by
  obtain ⟨e, he⟩ : ∃ e, s.queue.find? QueueEntry.isUnsent = some e :=
    Option.isSome_iff_exists.1 (by simpa [State.stands] using h)
  rw [State.grantPass, he]
  exact ⟨_, State.issue_arbiter_congr rfl _ _⟩

theorem State.grantReport_issues {s : State} (h : s.stands .report = true) :
    ∃ q, s.grantReport.arbiter = (s.issue .report q).arbiter := by
  simp only [State.stands, Bool.and_eq_true, bne_iff_ne] at h
  obtain ⟨hdirty, -⟩ := h
  obtain ⟨c, hc⟩ : ∃ c, Section.all.find? s.isDirty = some c :=
    Option.isSome_iff_exists.1 (List.find?_isSome.2 (State.exists_dirty_section hdirty))
  rw [State.grantReport, hc]
  exact ⟨_, State.issue_arbiter_congr rfl _ _⟩

/-- A walker's grant is its descriptor fetch, its record burst or its status write; each goes out. -/
theorem State.grantWalker_issues (s : State) (i : StreamId) :
    ∃ q, (s.grantWalker i).arbiter = (s.issue i.requester q).arbiter := by
  unfold State.grantWalker State.grantBurst
  dsimp only
  split
  case isTrue => exact ⟨_, State.issue_arbiter_congr (by simp) _ _⟩
  split
  case isTrue => exact ⟨_, State.issue_arbiter_congr (by simp) _ _⟩
  case isFalse => exact ⟨_, State.issue_arbiter_congr (by simp) _ _⟩

theorem State.grantCommand_issues {s : State} (h : s.stands .command = true) :
    ∃ q, s.grantCommand.arbiter = (s.issue .command q).arbiter := by
  unfold State.grantCommand
  split
  case h_1 l _ => exact ⟨l.nextRead, rfl⟩
  split
  case h_1 e _ => exact ⟨e.nextBurst, rfl⟩
  case h_2 hloader _ hstats => simp [State.stands, CommandUnit.stands, hloader, hstats] at h

/-- R122: a grant to a requester whose request stands issues one transaction of that requester. -/
theorem State.grantTo_issues {s : State} {w : Requester} (h : s.stands w = true) :
    ∃ q, (s.grantTo w).arbiter = (s.issue w q).arbiter := by
  cases w with
  | pass => exact State.grantPass_issues h
  | report => exact State.grantReport_issues h
  | event => exact State.grantWalker_issues s .event
  | command => exact State.grantCommand_issues h
  | capture => exact State.grantWalker_issues s .capture

/-! ## The event -/

theorem exec_memoryGrant (s : State) : exec .memoryGrant s = execMemoryGrant s := rfl

theorem exec_memoryGrant_of_winner {s : State} {w : Requester} (h : s.winner = some w) :
    exec .memoryGrant s = event s.grantOpen (State.grant w) s := by
  rw [exec_memoryGrant, execMemoryGrant, h]

theorem exec_memoryGrant_of_no_winner {s : State} (h : s.winner = none) : exec .memoryGrant s = .next s := by
  rw [exec_memoryGrant, execMemoryGrant, h]

/-- R120: the port is open outside RESET, with no answers owed to a drain and fewer than 8 transactions issued. -/
theorem State.grantOpen_iff (s : State) :
    s.grantOpen = true ↔ s.resetAsserted = false ∧ s.arbiter.drain = 0 ∧ s.arbiter.issued.length < 8 := by
  simp only [State.grantOpen, State.live, Bool.and_eq_true, Bool.not_eq_true', decide_eq_true_eq, and_assoc]
  rfl

theorem exec_memoryGrant_of_closed {s : State} (h : ¬ s.grantOpen = true) : exec .memoryGrant s = .next s := by
  cases hw : s.winner with
  | none => exact exec_memoryGrant_of_no_winner hw
  | some w => rw [exec_memoryGrant_of_winner hw, event, if_neg h]

/-- At an open port the arbiter takes the winner's transaction and the run count after the grant; the judgement of the
walkers that ends the event leaves it alone. -/
theorem exec_memoryGrant_arbiter {s : State} {w : Requester} (hopen : s.grantOpen = true) (hw : s.winner = some w) :
    ∃ t q, exec .memoryGrant s = .next t ∧
      t.arbiter = { (s.issue w q).arbiter with fairness := s.fairnessAfter w } := by
  obtain ⟨q, hq⟩ := State.grantTo_issues (State.stands_of_winner hw)
  refine ⟨(State.grant w s).settle, q, ?_, ?_⟩
  · rw [exec_memoryGrant_of_winner hw, event, if_pos hopen]
  · simp only [State.settle_frame, State.grant, hq]

/-- Settles O11: the model's winner is the first standing rank, and the arbiter after its grant is
`exec_memoryGrant_arbiter`. -/
theorem grantGoesByRankAndFairness : Obligations.GrantGoesByRankAndFairness := by
  refine ⟨fun s w hreset hdrain hroom hfair hrank => ?granted, fun s _ hclosed => ?unchanged⟩
  case granted =>
    have hopen : s.grantOpen = true := s.grantOpen_iff.2 ⟨hreset, hdrain, hroom⟩
    have hw : s.winner = some w := (State.winner_eq_firstStanding hfair).trans hrank
    obtain ⟨t, q, hexec, harb⟩ := exec_memoryGrant_arbiter hopen hw
    refine ⟨t, { requester := w, isWrite := decide (q.kind = .write), beats := q.beats, voided := false }, hexec, ?_,
      rfl, rfl, ?_, ?_⟩
    all_goals rw [harb]
    · rfl
    · exact hdrain
    · exact s.fairnessAfter_eq w
  case unchanged =>
    by_cases hopen : s.grantOpen = true
    · obtain ⟨hreset, hdrain, hroom⟩ := s.grantOpen_iff.1 hopen
      obtain hasserted | howed | hfull | hnone := hclosed
      · simp [hreset] at hasserted
      · omega
      · omega
      · exact exec_memoryGrant_of_no_winner (State.winner_eq_none_of_no_request hnone)
    · exact exec_memoryGrant_of_closed hopen

end Sys2Proof.Machine
end

section
/-! SUPPORT. Commands that end DONE in their own event: REFRESH (R138), and the commands that set the notice unit,
NOTICE_ENABLE (R142, R166) and FORCE_NOTICE (R143, R167). -/

namespace Sys2Proof.Machine

/-! ## A command that ends DONE (R134, R136) -/

/-- A command whose own stages make `t` of the part and answer DONE, where `t` differs from the part before the delivery in
nothing that the count of commands or the judgement of the walkers reads. -/
theorem event_command_done {s t : State} (h : s.ready) (c : Command)
    (hbody : c.body (s.command.count + 1) s.counted = t.counted.answer c .done (s.command.count + 1))
    (hcommand : t.command = s.command) (hevent : t.eventWalker = s.eventWalker)
    (hcapture : t.captureWalker = s.captureWalker) (heventStream : t.eventStream = s.eventStream)
    (hcaptureStream : t.captureStream = s.captureStream) (htime : t.time = s.time) :
    event s.live (deliverCommand c .supervisor) s = .next (t.completed c.code 1) := by
  have hdone : t.counted.answer c .done (s.command.count + 1) = t.completed c.code 1 := by
    rw [← hcommand]
    exact State.setResult_counted t c.code .done
  refine event_command_of_frame h c (hbody.trans hdone) hevent hcapture ?_ ?_ ?_ ?_
  · exact congrArg RecordStream.fifo heventStream
  · exact congrArg RecordStream.fifo hcaptureStream
  · exact congrArg TimeBase.eventLinger htime
  · exact congrArg TimeBase.captureLinger htime

/-! ## REFRESH (R138) -/

/-- The row of REFRESH is a delivery at the command unit. -/
theorem exec_refresh (p : Privilege) (s : State) : exec (.refresh p) s = event s.live (deliverCommand .refresh p) s := rfl

/-- Settles O34: the command's own stages set the report unit and answer DONE. -/
theorem refreshMarksEverySectionDirty : Obligations.RefreshMarksEverySectionDirty := by
  intro s hready
  rw [exec_refresh]
  exact event_command_done hready .refresh rfl rfl rfl rfl rfl rfl rfl

/-! ## NOTICE_ENABLE (R142, R164, R166) -/

/-- The row of NOTICE_ENABLE is a delivery at the command unit. -/
theorem exec_noticeEnable (p : Privilege) (s : State) :
    exec (.noticeEnable p) s = event s.live (deliverCommand .noticeEnable p) s := rfl

/-- R164: the line's level, in the words of the statements. -/
theorem noticeLevel_eq (published mask : BitVec 13) : noticeLevel published mask = decide (published &&& mask ≠ 0) := by
  rw [Bool.eq_iff_iff, noticeLevel, bne_iff_ne, decide_eq_true_eq]

/-- `setEnable` as one update: the notices section is dirty if the mask changed. -/
theorem State.setEnable_eq (s : State) (mask : BitVec 13) :
    s.setEnable mask = { s with
      notices := { s.notices with enable := mask, line := decide (s.notices.published &&& mask ≠ 0) }
      report := { s.report with
        dirty := if s.notices.enable = mask then s.report.dirty else s.report.dirty ||| 0x02 } } := by
  rw [State.setEnable, State.markDirtyIf_eq, noticeLevel_eq]
  by_cases hsame : s.notices.enable = mask
  · simp [hsame]
  · simp only [bne_iff_ne, ne_eq, hsame, not_false_eq_true, if_true, if_false]
    rfl

/-- The command count and the enable mask are apart: either may be changed first. -/
theorem State.setEnable_counted (s : State) (mask : BitVec 13) :
    s.counted.setEnable mask = (s.setEnable mask).counted := by
  simp only [State.setEnable_eq]
  rfl

theorem bodyNoticeEnable_of_mask {s : State} {mask : BitVec 13} (h : noticeMaskArg (s.arg 1) = some mask)
    (n : BitVec 8) : bodyNoticeEnable n s = (s.setEnable mask).answer .noticeEnable .done n := by
  simp only [bodyNoticeEnable, h]

theorem bodyNoticeEnable_of_no_mask {s : State} (h : noticeMaskArg (s.arg 1) = none) (n : BitVec 8) :
    bodyNoticeEnable n s = s.answer .noticeEnable .badarg n := by
  simp only [bodyNoticeEnable, h]

/-- R142: a delivery whose argument is a mask of notices puts that mask in place. -/
theorem exec_noticeEnable_of_mask {s : State} {mask : BitVec 13} (hready : s.ready)
    (h : noticeMaskArg (s.arg 1) = some mask) :
    exec (.noticeEnable .supervisor) s = .next ((s.setEnable mask).completed 0x0C 1) := by
  have hbody (n : BitVec 8) :
      Command.noticeEnable.body n s.counted = (s.setEnable mask).counted.answer .noticeEnable .done n := by
    rw [← State.setEnable_counted]
    exact bodyNoticeEnable_of_mask (s := s.counted) h n
  rw [exec_noticeEnable]
  apply event_command_done hready .noticeEnable (hbody _)
  all_goals simp

/-- R142: a delivery whose argument names no mask of notices is refused. -/
theorem exec_noticeEnable_of_no_mask {s : State} (hready : s.ready) (h : noticeMaskArg (s.arg 1) = none) :
    exec (.noticeEnable .supervisor) s = .next (s.completed 0x0C 5) :=
  event_command_answered hready .noticeEnable .badarg (bodyNoticeEnable_of_no_mask (s := s.counted) h _)

/-! ## FORCE_NOTICE (R143, R167) -/

/-- The row of FORCE_NOTICE is a delivery at the command unit. -/
theorem exec_forceNotice (p : Privilege) (s : State) :
    exec (.forceNotice p) s = event s.live (deliverCommand .forceNotice p) s := rfl

/-- R169: FORCED is bit 12 of the notices; raising it dirties the notices section (bit 1) if it was not raised. -/
theorem State.raise_forced_eq (s : State) :
    s.raise .forced = { s with
      notices := { s.notices with raw := s.notices.raw ||| 0x1000 }
      report := { s.report with
        dirty := if s.notices.raw.getLsbD 12 then s.report.dirty else s.report.dirty ||| 0x02 } } := by
  have hbit : s.isRaised .forced = s.notices.raw.getLsbD 12 := rfl
  rw [State.raise_eq, hbit]
  cases s.notices.raw.getLsbD 12
  · rfl
  · simp [Notice.mask, Notice.bit]

/-- The command count and the raw set are apart: either may be changed first. -/
theorem State.raise_counted (s : State) (n : Notice) : s.counted.raise n = (s.raise n).counted := by
  simp only [State.raise_eq]
  rfl

theorem exec_forceNotice_supervisor {s : State} (hready : s.ready) :
    exec (.forceNotice .supervisor) s = .next ((s.raise .forced).completed 0x0D 1) := by
  have hbody (n : BitVec 8) :
      Command.forceNotice.body n s.counted = (s.raise .forced).counted.answer .forceNotice .done n := by
    rw [← State.raise_counted]
    rfl
  rw [exec_forceNotice]
  apply event_command_done hready .forceNotice (hbody _)
  all_goals simp

/-! ## The notice unit at once -/

/-- Settles O45: the argument of NOTICE_ENABLE names a mask exactly below 2^13, and the states the two commands leave are
`State.setEnable_eq` and `State.raise_forced_eq`. -/
theorem noticeEnableAndForceNoticeActAtOnce : Obligations.NoticeEnableAndForceNoticeActAtOnce := by
  intro s hready
  refine ⟨fun hmask => ?enabled, fun hhigh => ?refused, ?forced⟩
  case enabled =>
    rw [exec_noticeEnable_of_mask hready (noticeMaskArg_of_lt hmask), State.setEnable_eq]
  case refused => exact exec_noticeEnable_of_no_mask hready (noticeMaskArg_of_ge hhigh)
  case forced => rw [exec_forceNotice_supervisor hready, State.raise_forced_eq]

end Sys2Proof.Machine
end

section
/-! SUPPORT. The commands that give the staged policy up: LOAD_POLICY (R147), which leaves the unit BUSY with a load begun, and
DISCARD (R156), which ends DONE. -/

namespace Sys2Proof.Machine

/-! ## LOAD_POLICY (R147, R135) -/

/-- The row of LOAD_POLICY is a delivery at the command unit. -/
theorem exec_loadPolicy (p : Privilege) (s : State) :
    exec (.loadPolicy p) s = event s.live (deliverCommand .loadPolicy p) s := rfl

/-- R147: an address that is a multiple of 64 and at most 0xFFFF_FBC0 names an image. -/
theorem imageAddressOk_iff (w : Word) : imageAddressOk w = true ↔ w.toNat % 64 = 0 ∧ w.toNat ≤ 0xFFFFFBC0 := by
  simp only [imageAddressOk, Bool.and_eq_true, decide_eq_true_eq]

/-- What an accepted LOAD_POLICY numbered `n` makes of a state (`bodyLoadPolicy_of_image`): the staged table is LOADING, the
unit is BUSY with a load that has read nothing, and the policy section is dirty. -/
def State.loadStarted (s : State) (n : BitVec 8) : State :=
  { s with
    policy := { s.policy with staged := .loading }
    command := { s.command with
      running := some { code := 0x02, number := n, stream := none }
      loader := some { image := s.arg 1, part := none, inFlight := false } }
    report := { s.report with dirty := s.report.dirty ||| 0x40 } }

theorem bodyLoadPolicy_of_image {s : State} (h : imageAddressOk (s.arg 1) = true) (n : BitVec 8) :
    bodyLoadPolicy n s = s.loadStarted n := by
  rw [bodyLoadPolicy, if_pos h]
  rfl

/-- R119: a load that has read nothing asks for the port, for its header read. -/
theorem State.stands_command_loadStarted (s : State) (n : BitVec 8) : (s.loadStarted n).stands .command = true := rfl

/-- R147: a delivery whose argument names an image starts the load in its own event. -/
theorem exec_loadPolicy_of_image {s : State} (hready : s.ready) (h : imageAddressOk (s.arg 1) = true) :
    exec (.loadPolicy .supervisor) s = .next (s.counted.loadStarted (s.command.count + 1)) :=
  event_command_of_frame hready .loadPolicy (bodyLoadPolicy_of_image (s := s.counted) h _) rfl rfl rfl rfl rfl rfl

/-! ## DISCARD (R156) -/

/-- The row of DISCARD is a delivery at the command unit. -/
theorem exec_discard (p : Privilege) (s : State) : exec (.discard p) s = event s.live (deliverCommand .discard p) s := rfl

/-- What DISCARD makes of the policy unit and of its section (`bodyDiscard_eq`), whatever the staged table held. -/
def State.stagedGivenUp (s : State) : State :=
  { s with
    policy := { s.policy with staged := .empty }
    report := { s.report with
      dirty := if s.policy.staged = .empty then s.report.dirty else s.report.dirty ||| 0x40 } }

/-- R156: the command's own stages give the staged policy up and answer DONE. -/
theorem bodyDiscard_eq (n : BitVec 8) (s : State) : bodyDiscard n s = s.stagedGivenUp.answer .discard .done n := by
  rw [bodyDiscard, State.markDirtyIf_eq, State.stagedGivenUp]
  by_cases hempty : s.policy.staged = .empty
  · simp [hempty]
  · simp only [hempty, ne_eq, not_false_eq_true, decide_true, if_true, if_false]
    rfl

/-- R156: the delivery ends DONE in its own event. -/
theorem exec_discard_supervisor {s : State} (hready : s.ready) :
    exec (.discard .supervisor) s = .next (s.stagedGivenUp.completed 0x04 1) :=
  event_command_done hready .discard (bodyDiscard_eq _ s.counted) rfl rfl rfl rfl rfl rfl

/-! ## The staged policy given up -/

/-- Settles O35: the states the two commands leave are `State.loadStarted`, whose loader asks for the header read, and
`State.stagedGivenUp` with the account of DONE. -/
theorem loadAndDiscardGiveUpTheStagedPolicy : Obligations.LoadAndDiscardGiveUpTheStagedPolicy := by
  intro s hready
  refine ⟨fun haligned hlast => ?load, fun _ => ?discard⟩
  case load =>
    have himage : imageAddressOk (s.arg 1) = true := (imageAddressOk_iff _).2 ⟨haligned, hlast⟩
    exact ⟨s.counted.loadStarted (s.command.count + 1), exec_loadPolicy_of_image hready himage,
      State.stands_command_loadStarted _ _, rfl⟩
  case discard => exact exec_discard_supervisor hready

end Sys2Proof.Machine
end

section
/-! SUPPORT. The notice line (R164). What the line is judged by, the notice unit but for its raw set, is changed by two
operations only, the publication (R163) and the enable mask (R142), and each of them sets the line anew. Every other
operation leaves it as it stands, whatever notices it raises (R162) or clears (R165): one lemma for each. -/

namespace Sys2Proof.Machine

/-! ## The law in the words of the model -/

/-- Every bit of a notice set is a notice's (R169). -/
theorem exists_notice_of_lt : ∀ i : Nat, i < 13 → ∃ n : Notice, n.bit = i
  | 0, _ => ⟨.denial, rfl⟩
  | 1, _ => ⟨.memfault, rfl⟩
  | 2, _ => ⟨.eventLoss, rfl⟩
  | 3, _ => ⟨.captureLoss, rfl⟩
  | 4, _ => ⟨.eventBuffer, rfl⟩
  | 5, _ => ⟨.captureBuffer, rfl⟩
  | 6, _ => ⟨.eventStarved, rfl⟩
  | 7, _ => ⟨.captureStarved, rfl⟩
  | 8, _ => ⟨.chainEnd, rfl⟩
  | 9, _ => ⟨.chainFault, rfl⟩
  | 10, _ => ⟨.commandDone, rfl⟩
  | 11, _ => ⟨.captureState, rfl⟩
  | 12, _ => ⟨.forced, rfl⟩
  | i + 13, h => absurd h (by omega)

/-- R164: the level that the part computes is high exactly when the two sets share a notice. -/
theorem noticeLevel_iff (published enable : BitVec 13) :
    noticeLevel published enable = true ↔
      ∃ n : Notice, published.getLsbD n.bit = true ∧ enable.getLsbD n.bit = true := by
  rw [noticeLevel, bne_iff_ne]
  constructor
  · intro hne
    by_contra hnone
    refine hne (BitVec.eq_of_getLsbD_eq fun i hi => ?_)
    obtain ⟨n, rfl⟩ := exists_notice_of_lt i hi
    have hn : ¬ (published.getLsbD n.bit = true ∧ enable.getLsbD n.bit = true) := fun hn => hnone ⟨n, hn⟩
    simpa using hn
  · rintro ⟨n, hpublished, henable⟩ hzero
    have hbit : (published &&& enable).getLsbD n.bit = true := by
      rw [BitVec.getLsbD_and, hpublished, henable, Bool.and_self]
    simp [hzero] at hbit

/-- R164: the law holds exactly where the line stands at the level computed. -/
theorem State.lineLaw_iff (s : State) :
    s.lineLaw ↔ s.notices.line = noticeLevel s.notices.published s.notices.enable := by
  rw [State.lineLaw, ← noticeLevel_iff]
  exact Bool.eq_iff_iff.symm

/-! ## What the line is judged by -/

/-- The notice unit but for its raw set: all that R164 speaks of. -/
def NoticeUnit.shown (u : NoticeUnit) : NoticeUnit := { u with raw := 0 }

@[simp] theorem NoticeUnit.shown_with_raw (u : NoticeUnit) (r : BitVec 13) : { u with raw := r }.shown = u.shown := rfl

/-- The law reads what is shown and nothing else. -/
theorem State.lineLaw_of_shown {s t : State} (h : t.notices.shown = s.notices.shown) (hs : s.lineLaw) : t.lineLaw := by
  obtain ⟨-, henable, hpublished, hline⟩ := NoticeUnit.mk.inj h
  rw [State.lineLaw_iff] at hs ⊢
  rw [henable, hpublished, hline, hs]

/-! ## Notices, streams and results -/

@[simp] theorem State.shown_raise (s : State) (n : Notice) : (s.raise n).notices.shown = s.notices.shown := by
  rw [State.raise_eq, NoticeUnit.shown_with_raw]

@[simp] theorem State.shown_clearNotices (s : State) (m : BitVec 13) :
    (s.clearNotices m).notices.shown = s.notices.shown := by
  simp [State.clearNotices]

@[simp] theorem State.shown_countLost (s : State) (i : StreamId) (k : Nat) :
    (s.countLost i k).notices.shown = s.notices.shown := by
  unfold State.countLost
  split <;> simp

@[simp] theorem State.shown_offer (s : State) (i : StreamId) (r : Record) :
    (s.offer i r).notices.shown = s.notices.shown := by
  simp only [State.offer]
  split
  · split <;> simp
  · simp

@[simp] theorem State.shown_setResult (s : State) (c : BitVec 8) (r : Result) (f : Nat) (n : BitVec 8) :
    (s.setResult c r f n).notices.shown = s.notices.shown := by
  rw [State.setResult_eq, NoticeUnit.shown_with_raw]

@[simp] theorem State.shown_answer (s : State) (c : Command) (r : Result) (n : BitVec 8) :
    (s.answer c r n).notices.shown = s.notices.shown := State.shown_setResult ..

@[simp] theorem State.shown_finish (s : State) (w : Option StreamId) (r : Result) (f : Nat) :
    (s.finish w r f).notices.shown = s.notices.shown := by
  unfold State.finish
  split
  · split <;> simp
  · rfl

@[simp] theorem State.shown_accountDenial (s : State) (i : DenialInfo) :
    (s.accountDenial i).notices.shown = s.notices.shown := by
  simp [State.accountDenial]

@[simp] theorem State.shown_reportDenial (s : State) (i : DenialInfo) (t : DenialTerms) :
    (s.reportDenial i t).notices.shown = s.notices.shown := by
  unfold State.reportDenial
  split <;> simp

@[simp] theorem State.shown_memoryFault (s : State) (r : Request) :
    (s.memoryFault r).notices.shown = s.notices.shown := by
  simp [State.memoryFault]

/-- Where each of two effects leaves what is shown, so do both, in either order. -/
theorem State.shown_inFreeOrder {f g : State → State} (hf : ∀ s, (f s).notices.shown = s.notices.shown)
    (hg : ∀ s, (g s).notices.shown = s.notices.shown) (s : State) :
    (inFreeOrder f g s).notices.shown = s.notices.shown := by
  simp only [inFreeOrder, inOrder]
  split <;> simp [hf, hg]

/-! ## Capture unit -/

@[simp] theorem State.shown_changeCapture (s : State) (c : CaptureState) :
    (s.changeCapture c).notices.shown = s.notices.shown := by
  unfold State.changeCapture
  split <;> simp

@[simp] theorem State.shown_offerDue (gs : List ClosedGroup) (s : State) :
    (s.offerDue gs).notices.shown = s.notices.shown := by
  induction gs generalizing s with
  | nil => simp [State.offerDue]
  | cons g gs ih =>
    simp only [State.offerDue]
    split <;> simp [ih]

@[simp] theorem State.shown_endDueGroups (s : State) : s.endDueGroups.notices.shown = s.notices.shown :=
  State.shown_offerDue ..

@[simp] theorem State.shown_closeGroup (s : State) (r : GroupReason) :
    (s.closeGroup r).notices.shown = s.notices.shown := by
  unfold State.closeGroup
  split <;> simp

@[simp] theorem State.shown_captureAccess (s : State) (r : Request) (d : DecisionRecord) (e : Eligibility) (k : Nat) :
    (s.captureAccess r d e k).notices.shown = s.notices.shown := by
  simp only [State.captureAccess]
  split <;> simp

@[simp] theorem State.shown_consider (s : State) (r : Request) (d : DecisionRecord) (e : Eligibility) (k : Nat) :
    (s.consider r d e k).notices.shown = s.notices.shown := by
  unfold State.consider
  split
  · rfl
  · split <;> simp

@[simp] theorem State.shown_fireOnEntry (s : State) (k : Nat) : (s.fireOnEntry k).notices.shown = s.notices.shown := by
  unfold State.fireOnEntry
  split <;> simp

@[simp] theorem State.shown_fireOnDenial (s : State) : s.fireOnDenial.notices.shown = s.notices.shown := by
  unfold State.fireOnDenial
  split <;> simp

@[simp] theorem State.shown_takeCaptured (ans : MemResponse) (s : State) :
    (s.takeCaptured ans).notices.shown = s.notices.shown := by
  simp only [State.takeCaptured]
  split
  case h_1 => rfl
  case h_2 =>
    split
    · simp
    · split <;> simp

@[simp] theorem State.shown_tickQuiet (s : State) : s.tickQuiet.notices.shown = s.notices.shown := by
  unfold State.tickQuiet
  split
  · rfl
  · split <;> simp

@[simp] theorem State.shown_startCapture (s : State) (t : TriggerSettings) :
    (s.startCapture t).notices.shown = s.notices.shown := by
  simp [State.startCapture]

@[simp] theorem State.shown_stopNow (s : State) : s.stopNow.notices.shown = s.notices.shown := by
  unfold State.stopNow
  split <;> simp

@[simp] theorem State.shown_stopAtGroupEnd (s : State) : s.stopAtGroupEnd.notices.shown = s.notices.shown := by
  unfold State.stopAtGroupEnd
  split <;> simp

@[simp] theorem shown_captureStep (ans : MemResponse) (link : Bool) (k : Nat) (s : State) :
    (captureStep ans link k s).notices.shown = s.notices.shown := by
  unfold captureStep
  split
  · split <;> simp
  · rfl

/-! ## Walkers -/

@[simp] theorem State.shown_endFlush (s : State) (i : StreamId) (r : Result) :
    (s.endFlush i r).notices.shown = s.notices.shown := by
  simp [State.endFlush]

@[simp] theorem State.shown_cutFlush (s : State) (i : StreamId) (r : Result) :
    (s.cutFlush i r).notices.shown = s.notices.shown := by
  unfold State.cutFlush
  split <;> simp

@[simp] theorem State.shown_settleFlush (s : State) (i : StreamId) :
    (s.settleFlush i).notices.shown = s.notices.shown := by
  unfold State.settleFlush
  split <;> simp

@[simp] theorem State.shown_settleWalker (s : State) (i : StreamId) :
    (s.settleWalker i).notices.shown = s.notices.shown := by
  simp only [State.settleWalker]
  split <;> simp

@[simp] theorem State.shown_settle (s : State) : s.settle.notices.shown = s.notices.shown := by
  simp [State.settle]

@[simp] theorem State.shown_enterFaulted (s : State) (i : StreamId) (c : FaultCause) :
    (s.enterFaulted i c).notices.shown = s.notices.shown := by
  simp [State.enterFaulted]

@[simp] theorem State.shown_completeAbort (s : State) (i : StreamId) :
    (s.completeAbort i).notices.shown = s.notices.shown := by
  simp [State.completeAbort]

@[simp] theorem State.shown_abortFilled (s : State) (i : StreamId) :
    (s.abortFilled i).notices.shown = s.notices.shown := by
  simp only [State.abortFilled]
  split <;> simp

@[simp] theorem State.shown_abortWalker (s : State) (i : StreamId) :
    (s.abortWalker i).notices.shown = s.notices.shown := by
  simp only [State.abortWalker]
  split
  case h_5 => split <;> simp
  case h_6 => split <;> simp
  all_goals simp

@[simp] theorem State.shown_enterWaiting (s : State) (i : StreamId) :
    (s.enterWaiting i).notices.shown = s.notices.shown := by
  simp [State.enterWaiting]

@[simp] theorem State.shown_judgeDescriptor (s : State) (i : StreamId) (ans : MemResponse) :
    (s.judgeDescriptor i ans).notices.shown = s.notices.shown := by
  simp only [State.judgeDescriptor]
  split
  · simp
  · split
    · simp
    · split <;> simp

@[simp] theorem State.shown_takeFetch (s : State) (i : StreamId) (ans : MemResponse) :
    (s.takeFetch i ans).notices.shown = s.notices.shown := by
  unfold State.takeFetch
  split <;> simp

@[simp] theorem State.shown_takeBurst (s : State) (i : StreamId) (rs : List Record) (code : RespCode) :
    (s.takeBurst i rs code).notices.shown = s.notices.shown := by
  cases code with
  | okay =>
    simp only [State.takeBurst]
    split <;> simp
  | error =>
    simp only [State.takeBurst]
    split <;> simp

@[simp] theorem State.shown_enterEnded (s : State) (i : StreamId) :
    (s.enterEnded i).notices.shown = s.notices.shown := by
  simp [State.enterEnded]

@[simp] theorem State.shown_bufferClosed (s : State) (i : StreamId) :
    (s.bufferClosed i).notices.shown = s.notices.shown := by
  simp [State.bufferClosed]

@[simp] theorem State.shown_flushAtClose (s : State) (i : StreamId) (ended : Bool) :
    (s.flushAtClose i ended).notices.shown = s.notices.shown := by
  unfold State.flushAtClose
  split
  · simp
  · split <;> simp
  · rfl

@[simp] theorem State.shown_closeCompleted (s : State) (i : StreamId) (c : DescriptorCopy) (code : RespCode) :
    (s.closeCompleted i c code).notices.shown = s.notices.shown := by
  cases code with
  | okay =>
    simp only [State.closeCompleted]
    split <;> simp
  | error => simp [State.closeCompleted]

@[simp] theorem State.shown_abortCloseCompleted (s : State) (i : StreamId) (code : RespCode) :
    (s.abortCloseCompleted i code).notices.shown = s.notices.shown := by
  cases code <;> simp [State.abortCloseCompleted]

@[simp] theorem State.shown_takeStatus (s : State) (i : StreamId) (code : RespCode) :
    (s.takeStatus i code).notices.shown = s.notices.shown := by
  simp only [State.takeStatus]
  split
  · simp
  · split <;> simp

/-! ## Memory port, statistics engine, loader and time base -/

@[simp] theorem State.notices_grantTo (s : State) (r : Requester) : (s.grantTo r).notices = s.notices := by
  cases r <;> simp [State.grantTo]

@[simp] theorem State.shown_statsCompleted (g : StatsEngine) (code : RespCode) (s : State) :
    (s.statsCompleted g code).notices.shown = s.notices.shown := by
  simp only [State.statsCompleted]
  split <;> simp

@[simp] theorem State.shown_endLoad (s : State) (g : Staged) (r : Result) (f : Nat) :
    (s.endLoad g r f).notices.shown = s.notices.shown := by
  simp [State.endLoad]

@[simp] theorem State.shown_takeHeader (s : State) (l : Loader) (ws : List Word) :
    (s.takeHeader l ws).notices.shown = s.notices.shown := by
  simp only [State.takeHeader]
  split
  · simp
  · split <;> simp

@[simp] theorem State.shown_takeEntries (s : State) (l : Loader) (p : LoadedPart) (ws : List Word) :
    (s.takeEntries l p ws).notices.shown = s.notices.shown := by
  simp only [State.takeEntries]
  split
  · simp
  · split <;> simp

@[simp] theorem State.shown_policyRead (l : Loader) (ans : MemResponse) (s : State) :
    (s.policyRead l ans).notices.shown = s.notices.shown := by
  simp only [State.policyRead]
  split
  · simp
  · split <;> simp

@[simp] theorem State.shown_commitPolicy (s : State) (p : Policy) :
    (s.commitPolicy p).notices.shown = s.notices.shown := by
  simp [State.commitPolicy]

@[simp] theorem State.shown_advance (s : State) : s.advance.notices.shown = s.notices.shown := by
  simp [State.advance]

@[simp] theorem State.shown_clockTick (s : State) : s.clockTick.notices.shown = s.notices.shown := by
  unfold State.clockTick
  split <;> simp

@[simp] theorem State.shown_lingerEvent (i : StreamId) (s : State) :
    (s.lingerEvent i).notices.shown = s.notices.shown := by
  unfold State.lingerEvent
  split <;> simp

/-! ## Decision point -/

@[simp] theorem State.shown_takeDenial (i : DenialInfo) (t : DenialTerms) (s : State) :
    (s.takeDenial i t).notices.shown = s.notices.shown := by
  simp only [State.takeDenial]
  split
  · rw [State.shown_inFreeOrder (fun u => u.shown_reportDenial i t) State.shown_fireOnDenial,
      State.shown_accountDenial]
  · simp

@[simp] theorem State.shown_takeRequest (r : Request) (s : State) :
    (s.takeRequest r).notices.shown = s.notices.shown := by
  simp only [State.takeRequest]
  split <;> simp [State.takeEligible]

/-! ## The two operations that move the line -/

/-- R163, R164: a publication sets the line to the level of the set it publishes. -/
theorem State.lineLaw_publish {s : State} (hs : s.lineLaw) (c : Option (BitVec 13)) : (s.publish c).lineLaw := by
  cases c with
  | none => exact hs
  | some raw => exact (State.lineLaw_iff _).2 rfl

/-- R142, R164: a new enable mask sets the line to its level. -/
theorem State.lineLaw_setEnable (s : State) (mask : BitVec 13) : (s.setEnable mask).lineLaw := by
  simp [State.lineLaw_iff, State.setEnable]

/-- R161, R163: an answer to a section write publishes what the write carried, and sets the line for it. -/
theorem State.lineLaw_reportCompleted (w : ReportWrite) (code : RespCode) {s : State} (hs : s.lineLaw) :
    (s.reportCompleted w code).lineLaw := by
  simp only [State.reportCompleted]
  refine State.lineLaw_publish (State.lineLaw_of_shown ?_ hs) w.raw
  cases code <;> simp

/-! ## Deliveries -/

/-- No command but NOTICE_ENABLE touches what the line is judged by. -/
theorem Command.shown_body {c : Command} (hc : c ≠ .noticeEnable) (n : BitVec 8) (s : State) :
    (c.body n s).notices.shown = s.notices.shown := by
  cases c with
  | noticeEnable => exact absurd rfl hc
  | refresh => simp [Command.body, bodyRefresh]
  | loadPolicy =>
    simp only [Command.body, bodyLoadPolicy]
    split <;> simp
  | commit =>
    simp only [Command.body, bodyCommit]
    split <;> simp
  | discard => simp [Command.body, bodyDiscard]
  | setChain =>
    simp only [Command.body, bodySetChain]
    split
    · simp
    · split
      · simp
      · split
        · simp
        · split <;> simp
  | kick =>
    simp only [Command.body, bodyKick]
    split
    · simp
    · split <;> simp
  | flush =>
    simp only [Command.body, bodyFlush]
    split
    · simp
    · split <;> simp
  | captureStart =>
    simp only [Command.body, bodyCaptureStart]
    split
    · simp
    · split <;> simp
  | captureStop =>
    simp only [Command.body, bodyCaptureStop]
    split
    · split <;> simp
    · split
      · split <;> simp
      · simp
  | mark =>
    simp only [Command.body, bodyMark]
    split <;> simp
  | ack =>
    simp only [Command.body, bodyAck]
    split <;> simp
  | forceNotice => simp [Command.body, bodyForceNotice]
  | clearDenials => simp [Command.body, bodyClearDenials]
  | stats =>
    simp only [Command.body, bodyStats]
    split
    · split <;> simp
    · simp
  | setTiming =>
    simp only [Command.body, bodySetTiming]
    split <;> simp
  | recordReset => simp [Command.body, bodyRecordReset]

/-- R142: NOTICE_ENABLE is refused, or sets the line for its mask. -/
theorem lineLaw_bodyNoticeEnable {s : State} (hs : s.lineLaw) (n : BitVec 8) : (bodyNoticeEnable n s).lineLaw := by
  cases hmask : noticeMaskArg (s.arg 1) with
  | none =>
    rw [bodyNoticeEnable_of_no_mask hmask]
    exact State.lineLaw_of_shown (State.shown_answer ..) hs
  | some mask =>
    rw [bodyNoticeEnable_of_mask hmask]
    exact State.lineLaw_of_shown (State.shown_answer ..) (s.lineLaw_setEnable mask)

theorem Command.lineLaw_body (c : Command) {s : State} (hs : s.lineLaw) (n : BitVec 8) : (c.body n s).lineLaw := by
  by_cases hc : c = .noticeEnable
  · subst hc
    exact lineLaw_bodyNoticeEnable hs n
  · exact State.lineLaw_of_shown (Command.shown_body hc n s) hs

/-- R134: a delivery is refused with a result word, or goes to a command's own stages. -/
theorem State.lineLaw_deliver {s : State} (hs : s.lineLaw) (code : BitVec 8) (p : Privilege) (c : Option Command) :
    (s.deliver code p c).lineLaw := by
  have hrefused (r : Result) : (s.counted.setResult code r 0 (s.command.count + 1)).lineLaw :=
    State.lineLaw_of_shown (State.shown_setResult ..) hs
  simp only [State.deliver]
  split
  · exact hrefused .busy
  · split
    · exact hrefused .privilege
    · cases c with
      | none => exact hrefused .unknown
      | some c => exact c.lineLaw_body (s := s.counted) hs _

theorem State.lineLaw_commandUnit {s : State} (hs : s.lineLaw) (wc : WriteCompletion) : (s.commandUnit wc).lineLaw := by
  have harguments : (s.takeArguments wc).lineLaw := State.lineLaw_of_shown (by simp) hs
  unfold State.commandUnit
  split
  · exact State.lineLaw_deliver harguments ..
  · exact harguments

/-! ## Memory completion of a forwarded transaction -/

/-- A choice between two states of which each keeps the law. -/
theorem State.lineLaw_ite {p : Prop} [Decidable p] {s t : State} (hs : s.lineLaw) (ht : t.lineLaw) :
    (if p then s else t).lineLaw := by
  split
  · exact hs
  · exact ht

theorem lineLaw_captureStep {s : State} (hs : s.lineLaw) (ans : MemResponse) (link : Bool) (k : Nat) :
    (captureStep ans link k s).lineLaw :=
  State.lineLaw_of_shown (shown_captureStep ..) hs

theorem State.lineLaw_offerToWalkers {s : State} (hs : s.lineLaw) (width : Nat) (wc : WriteCompletion) :
    (s.offerToWalkers width wc).lineLaw :=
  State.lineLaw_of_shown (by simp) hs

/-- R31, R36: each effect of an OKAY write's completion keeps the law, and so do all in any order. -/
theorem State.lineLaw_offerWrite {s : State} (hs : s.lineLaw) (o : CompletionOrder) (width : Nat) (wc : WriteCompletion)
    (ans : MemResponse) (link : Bool) : (s.offerWrite o width wc ans link).lineLaw := by
  have hstep (k : Nat) {u : State} (hu : u.lineLaw) : (captureStep ans link k u).lineLaw :=
    lineLaw_captureStep hu ans link k
  have hwalkers {u : State} (hu : u.lineLaw) : (u.offerToWalkers width wc).lineLaw := u.lineLaw_offerToWalkers hu width wc
  have h1 := State.lineLaw_ite (p := 1 ≤ o.captureSteps) (hstep 0 hs) hs
  have h2 := State.lineLaw_ite (p := 2 ≤ o.captureSteps) (hstep 1 h1) h1
  have h3 := State.lineLaw_ite (p := o.walkersFirst = true) (hwalkers h2) h2
  have h4 := State.lineLaw_commandUnit h3 wc
  have h5 := State.lineLaw_ite (p := o.walkersFirst = true) h4 (hwalkers h4)
  have h6 := State.lineLaw_ite (p := 1 ≤ o.captureSteps) h5 (hstep 0 h5)
  exact State.lineLaw_ite h6 (hstep 1 h6)

theorem State.lineLaw_completeWrite {s : State} (hs : s.lineLaw) (r : Request) (ans : MemResponse) (link : Bool) :
    (s.completeWrite r ans link).lineLaw := by
  simp only [State.completeWrite]
  split
  · exact State.lineLaw_offerWrite (s := s.drawn 3) hs ..
  · exact State.lineLaw_offerWrite hs ..

/-- R31: the effects of a completion, by its code and the kind of its access. -/
theorem State.lineLaw_completePass {s : State} (hs : s.lineLaw) (q : QueueEntry) (ans : MemResponse) :
    (s.completePass q ans).lineLaw := by
  have hstored : (s.popIssued.storeResponse ans).lineLaw := hs
  simp only [State.completePass, State.completionEffects]
  split
  · exact State.lineLaw_of_shown (by simp) hstored
  · exact State.lineLaw_completeWrite hstored ..
  · exact State.lineLaw_of_shown (by simp) hstored
  · exact State.lineLaw_of_shown (by simp) hstored

/-! ## Events -/

/-- An outcome that is no next state, or one of which the law holds. -/
def KeepsTheLine (o : Host.Outcome State Fault Refusal) : Prop := ∀ t, o = .next t → t.lineLaw

theorem keepsTheLine_next {s : State} (hs : s.lineLaw) : KeepsTheLine (.next s) := by
  rintro t ⟨⟩
  exact hs

theorem keepsTheLine_fault (f : Fault) : KeepsTheLine (.fault f) := fun _ h => nomatch h

theorem keepsTheLine_refused (r : Refusal) : KeepsTheLine (.refused r) := fun _ h => nomatch h

/-- An event keeps the law if its effect does: the judgement of the walkers that ends it does not touch the line. -/
theorem keepsTheLine_event {s : State} {f : State → State} (hs : s.lineLaw) (enabled : Bool)
    (hf : (f s).lineLaw) : KeepsTheLine (event enabled f s) := by
  refine keepsTheLine_next ?_
  split
  · exact State.lineLaw_of_shown (State.shown_settle _) hf
  · exact hs

/-- An event whose effect leaves what the line is judged by keeps the law. -/
theorem keepsTheLine_event_of_shown {s : State} {f : State → State} (hs : s.lineLaw) (enabled : Bool)
    (hf : (f s).notices.shown = s.notices.shown) : KeepsTheLine (event enabled f s) :=
  keepsTheLine_event hs enabled (State.lineLaw_of_shown hf hs)

/-- R134: the row of every command. -/
theorem keepsTheLine_deliverCommand {s : State} (hs : s.lineLaw) (c : Command) (p : Privilege) :
    KeepsTheLine (event s.live (deliverCommand c p) s) :=
  keepsTheLine_event hs _ (State.lineLaw_deliver hs ..)

/-- R37: at reset the published set and the mask are empty and the line is low. -/
theorem State.lineLaw_assertReset (a : BitVec 4) (m : StartMode) (s : State) : (s.assertReset a m).lineLaw := by
  simp [State.lineLaw_iff, State.assertReset, State.resetValues, noticeLevel]

theorem keepsTheLine_execResetRelease {s : State} (hs : s.lineLaw) (a : BitVec 4) (m : StartMode) :
    KeepsTheLine (execResetRelease a m s) := by
  refine keepsTheLine_next ?_
  split <;> exact hs

theorem keepsTheLine_execDecisionPoint {s : State} (hs : s.lineLaw) (r : Request) :
    KeepsTheLine (execDecisionPoint r s) := by
  unfold execDecisionPoint
  split
  · exact keepsTheLine_event_of_shown hs _ (by simp)
  · exact keepsTheLine_refused _

theorem keepsTheLine_execMemoryGrant {s : State} (hs : s.lineLaw) : KeepsTheLine (execMemoryGrant s) := by
  unfold execMemoryGrant
  split
  · exact keepsTheLine_event_of_shown hs _ (by simp [State.grant])
  · exact keepsTheLine_next hs

theorem keepsTheLine_execPassMemoryCompletion {s : State} (hs : s.lineLaw) (ans : MemResponse) :
    KeepsTheLine (execPassMemoryCompletion ans s) := by
  unfold execPassMemoryCompletion
  split
  · split
    · exact keepsTheLine_event hs _ (State.lineLaw_completePass hs ..)
    · exact keepsTheLine_fault _
  · exact keepsTheLine_next hs

theorem keepsTheLine_execDescriptorFetchCompletion {s : State} (hs : s.lineLaw) (ans : MemResponse) :
    KeepsTheLine (execDescriptorFetchCompletion ans s) := by
  unfold execDescriptorFetchCompletion
  split
  case h_1 =>
    split
    · exact keepsTheLine_event_of_shown hs _ (by simp)
    · exact keepsTheLine_fault _
  all_goals exact keepsTheLine_next hs

theorem keepsTheLine_execRecordBurstCompletion {s : State} (hs : s.lineLaw) (code : RespCode) :
    KeepsTheLine (execRecordBurstCompletion code s) := by
  unfold execRecordBurstCompletion
  split
  case h_1 => exact keepsTheLine_event_of_shown hs _ (by simp)
  all_goals exact keepsTheLine_next hs

theorem keepsTheLine_execStatusWriteCompletion {s : State} (hs : s.lineLaw) (code : RespCode) :
    KeepsTheLine (execStatusWriteCompletion code s) := by
  unfold execStatusWriteCompletion
  split
  case h_1 => exact keepsTheLine_event_of_shown hs _ (by simp)
  all_goals exact keepsTheLine_next hs

theorem keepsTheLine_execReportWriteCompletion {s : State} (hs : s.lineLaw) (code : RespCode) :
    KeepsTheLine (execReportWriteCompletion code s) := by
  unfold execReportWriteCompletion
  split
  · exact keepsTheLine_event hs _ (State.lineLaw_reportCompleted _ code (s := s.popIssued) hs)
  · exact keepsTheLine_next hs

theorem keepsTheLine_execStatsBurstCompletion {s : State} (hs : s.lineLaw) (code : RespCode) :
    KeepsTheLine (execStatsBurstCompletion code s) := by
  unfold execStatsBurstCompletion
  split
  · exact keepsTheLine_event_of_shown hs _ (by simp)
  · exact keepsTheLine_next hs

theorem keepsTheLine_execPolicyReadCompletion {s : State} (hs : s.lineLaw) (ans : MemResponse) :
    KeepsTheLine (execPolicyReadCompletion ans s) := by
  unfold execPolicyReadCompletion
  split
  · split
    · exact keepsTheLine_event_of_shown hs _ (by simp)
    · exact keepsTheLine_fault _
  · exact keepsTheLine_next hs

theorem keepsTheLine_execDrainResponse {s : State} (hs : s.lineLaw) (ans : MemResponse) :
    KeepsTheLine (execDrainResponse ans s) := by
  unfold execDrainResponse
  exact keepsTheLine_event_of_shown hs _ rfl

theorem keepsTheLine_execAnchorArgumentWrite {s : State} (hs : s.lineLaw) (wc : WriteCompletion) :
    KeepsTheLine (execAnchorArgumentWrite wc s) := by
  unfold execAnchorArgumentWrite
  split
  · exact keepsTheLine_event_of_shown hs _ (by simp)
  · exact keepsTheLine_refused _

theorem keepsTheLine_execUnknownCommand {s : State} (hs : s.lineLaw) (p : Privilege) (code : BitVec 8) :
    KeepsTheLine (execUnknownCommand p code s) := by
  unfold execUnknownCommand
  split
  · exact keepsTheLine_refused _
  · exact keepsTheLine_event hs _ (State.lineLaw_deliver hs ..)

/-! ## Every step -/

/-- R164: every event keeps the law. -/
theorem keepsTheLine_exec (i : Instr) {s : State} (hs : s.lineLaw) : KeepsTheLine (exec i s) := by
  cases i with
  | reset a m => exact keepsTheLine_next (s.lineLaw_assertReset a m)
  | resetRelease a m => exact keepsTheLine_execResetRelease hs a m
  | decisionPoint r => exact keepsTheLine_execDecisionPoint hs r
  | memoryGrant => exact keepsTheLine_execMemoryGrant hs
  | passMemoryCompletion x => exact keepsTheLine_execPassMemoryCompletion hs x
  | descriptorFetchCompletion x => exact keepsTheLine_execDescriptorFetchCompletion hs x
  | recordBurstCompletion c => exact keepsTheLine_execRecordBurstCompletion hs c
  | statusWriteCompletion c => exact keepsTheLine_execStatusWriteCompletion hs c
  | reportWriteCompletion c => exact keepsTheLine_execReportWriteCompletion hs c
  | statsBurstCompletion c => exact keepsTheLine_execStatsBurstCompletion hs c
  | policyReadCompletion x => exact keepsTheLine_execPolicyReadCompletion hs x
  | anchorArgumentWrite w => exact keepsTheLine_execAnchorArgumentWrite hs w
  | unknownCommand p c => exact keepsTheLine_execUnknownCommand hs p c
  | drainResponse x => exact keepsTheLine_execDrainResponse hs x
  | voidAnswerDiscard _ => exact keepsTheLine_event (f := State.popIssued) hs _ hs
  | deliveryEnd => exact keepsTheLine_event (f := State.endDelivery) hs _ hs
  | tickAdvance | quietTimerExpiry => exact keepsTheLine_event_of_shown hs _ s.shown_advance
  | lingerClose st => exact keepsTheLine_event_of_shown hs _ (s.shown_lingerEvent st)
  | clock => exact keepsTheLine_event_of_shown hs _ s.shown_clockTick
  | refresh p | loadPolicy p | commit p | discard p | setChain p | setChainAbort p | kick p | flush p | captureStart p
  | captureStopNow p | captureStopAtGroupEnd p | mark p | ack p | noticeEnable p | forceNotice p | clearDenials p | stats p
  | setTiming p | recordReset p => exact keepsTheLine_deliverCommand hs _ p

/-- Settles O56: a step idles, or takes an event, which keeps the law. -/
theorem everyStepKeepsTheNoticeLine : Obligations.EveryStepKeepsTheNoticeLine := by
  intro s t hs hstep
  unfold step at hstep
  split at hstep
  case h_1 => exact keepsTheLine_next hs t hstep
  case h_2 i rest _ => exact keepsTheLine_exec i (s := { s with pending := rest }) hs t hstep

end Sys2Proof.Machine
end

section
/-! SUPPORT. What a step can do, said once for every row of the table: the effects that events take (`EventEffect`), those
that a delivery takes (`CommandEffect`), and the induction over a step that every invariant uses (`step_keeps`). -/

namespace Sys2Proof.Machine

/-! ## Deliveries -/

/-- What a command's own stages make of a state (R134 stages 4 to 6), under command number `n`: an answer alone, or the
effect of a command carried out. -/
inductive CommandEffect (n : BitVec 8) (s : State) : State → Prop where
  | answered (c : Command) (r : Result) : CommandEffect n s (s.answer c r n)
  | refresh :
      CommandEffect n s ({ s with report := { s.report with dirty := 0xFF, fault := false } }.answer .refresh .done n)
  | loadPolicy (h : imageAddressOk (s.arg 1) = true) : CommandEffect n s (s.loadStarted n)
  | commit (p : Policy) (h : s.policy.staged = .valid p) : CommandEffect n s ((s.commitPolicy p).answer .commit .done n)
  | discard : CommandEffect n s (s.stagedGivenUp.answer .discard .done n)
  | abort (i : StreamId) : CommandEffect n s ((s.startRunning .setChain n (some i)).abortWalker i)
  | startChain (i : StreamId) (a : Word) (h : (s.walker i).state.startable = true) :
      CommandEffect n s ((s.startChain i a).answer .setChain .done n)
  | kick (i : StreamId) (h : (s.walker i).state = .waiting) : CommandEffect n s ((s.refetch i).answer .kick .done n)
  | flush (i : StreamId) (h : (s.walker i).state = .filling) :
      CommandEffect n s ((s.startRunning .flush n (some i)).setWalker i
        { s.walker i with flushCount := some ((s.stream i).fifo.length + (s.walker i).recordsInFlight) })
  | captureStart (t : TriggerSettings) (h : s.capture.state = .stopped) :
      CommandEffect n s ((s.startCapture t).answer .captureStart .done n)
  | stopNow (h : s.capture.state ≠ .stopped) : CommandEffect n s (s.stopNow.answer .captureStop .done n)
  | stopAtGroupEnd (h : s.capture.state = .armed ∨ s.capture.state = .running) :
      CommandEffect n s (s.stopAtGroupEnd.answer .captureStop .done n)
  | mark (i : StreamId) (r : Record) : CommandEffect n s ((s.offer i r).answer .mark .done n)
  | ack (m : BitVec 13) : CommandEffect n s ((s.answer .ack .done n).clearNotices m)
  | noticeEnable (m : BitVec 13) : CommandEffect n s ((s.setEnable m).answer .noticeEnable .done n)
  | forceNotice : CommandEffect n s ((s.raise .forced).answer .forceNotice .done n)
  | clearDenials : CommandEffect n s ((s.setDenial s.denial.emptied).answer .clearDenials .done n)
  | stats (g : StatsEngine) :
      CommandEffect n s { s.startRunning .stats n none with
        command := { (s.startRunning .stats n none).command with stats := some g } }
  | statsCleared (g : StatsEngine) :
      CommandEffect n s (State.clearCounts { s.startRunning .stats n none with
        command := { (s.startRunning .stats n none).command with stats := some g } })
  | setTiming (x : TimeBase) (h : x.tick = s.time.tick) : CommandEffect n s ({ s with time := x }.answer .setTiming .done n)
  | recordReset : CommandEffect n s (s.resetRecording.answer .recordReset .done n)

theorem CommandEffect.of_bodySetChain (n : BitVec 8) (s : State) : CommandEffect n s (bodySetChain n s) := by
  unfold bodySetChain
  split
  · exact .answered ..
  next i _ =>
    split
    · exact .answered ..
    · split
      · exact .abort i
      · split
        case isTrue h => exact .startChain i _ h
        case isFalse => exact .answered ..

theorem CommandEffect.of_bodyCaptureStop (n : BitVec 8) (s : State) : CommandEffect n s (bodyCaptureStop n s) := by
  unfold bodyCaptureStop
  split
  · split
    case isTrue => exact .answered ..
    case isFalse h => exact .stopNow h
  · split
    · split
      case isTrue => exact .answered ..
      case isFalse h =>
        refine .stopAtGroupEnd ?_
        cases hstate : s.capture.state <;> simp_all
    · exact .answered ..

theorem CommandEffect.of_bodyStats (n : BitVec 8) (s : State) : CommandEffect n s (bodyStats n s) := by
  unfold bodyStats
  split
  · dsimp only
    split
    · exact .statsCleared _
    · exact .stats _
  · exact .answered ..

/-- R134 stages 4 to 6: every command answers, or takes the effect of one carried out. -/
theorem Command.body_effect (c : Command) (n : BitVec 8) (s : State) : CommandEffect n s (c.body n s) := by
  cases c with
  | refresh => exact .refresh
  | loadPolicy =>
    by_cases h : imageAddressOk (s.arg 1) = true
    · rw [Command.body, bodyLoadPolicy_of_image h]
      exact .loadPolicy h
    · rw [Command.body, bodyLoadPolicy, if_neg h]
      exact .answered ..
  | commit =>
    simp only [Command.body, bodyCommit]
    split
    · exact .commit _ ‹_›
    · exact .answered ..
    · exact .answered ..
  | discard =>
    rw [Command.body, bodyDiscard_eq]
    exact .discard
  | setChain => exact .of_bodySetChain n s
  | kick =>
    simp only [Command.body, bodyKick]
    split
    · exact .answered ..
    · split
      · exact .kick _ ‹_›
      · exact .answered ..
  | flush =>
    simp only [Command.body, bodyFlush]
    split
    · exact .answered ..
    · split
      · exact .flush _ ‹_›
      · exact .answered ..
  | captureStart =>
    simp only [Command.body, bodyCaptureStart]
    split
    · exact .answered ..
    · split
      · exact .captureStart _ ‹_›
      · exact .answered ..
  | captureStop => exact .of_bodyCaptureStop n s
  | mark =>
    simp only [Command.body, bodyMark]
    split
    · exact .answered ..
    · exact .mark ..
  | ack =>
    simp only [Command.body, bodyAck]
    split
    · exact .answered ..
    · exact .ack _
  | noticeEnable =>
    simp only [Command.body, bodyNoticeEnable]
    split
    · exact .answered ..
    · exact .noticeEnable _
  | forceNotice => exact .forceNotice
  | clearDenials => exact .clearDenials
  | stats => exact .of_bodyStats n s
  | setTiming =>
    simp only [Command.body, bodySetTiming]
    split
    · exact .setTiming _ rfl
    · exact .answered ..
  | recordReset => exact .recordReset

/-- R134: a delivery is refused with a result word, or an IDLE unit takes a supervisor's command to its own stages. -/
theorem State.deliver_cases (s : State) (code : BitVec 8) (p : Privilege) (c : Option Command) :
    (∃ r, s.deliver code p c = s.counted.setResult code r 0 (s.command.count + 1)) ∨
      (s.command.running = none ∧ CommandEffect (s.command.count + 1) s.counted (s.deliver code p c)) := by
  simp only [State.deliver]
  split
  · exact .inl ⟨_, rfl⟩
  next hidle =>
    split
    · exact .inl ⟨_, rfl⟩
    · cases c with
      | none => exact .inl ⟨_, rfl⟩
      | some c => exact .inr ⟨by simpa [State.busy] using hidle, c.body_effect _ _⟩

/-- The two ends of a delivery as one induction: what a refusal keeps and each command's own stages keep, a delivery keeps. -/
theorem State.deliver_keeps {P : State → Prop} {s : State} (code : BitVec 8) (p : Privilege) (c : Option Command)
    (hrefused : ∀ r, P (s.counted.setResult code r 0 (s.command.count + 1)))
    (hcommand : ∀ n u, s.command.running = none → CommandEffect n s.counted u → P u) : P (s.deliver code p c) := by
  obtain ⟨r, h⟩ | ⟨hidle, h⟩ := s.deliver_cases code p c
  · exact h ▸ hrefused r
  · exact hcommand _ _ hidle h

/-! ## The rows of the commands -/

/-- R178: each code names its command. -/
theorem commandOf_code (c : Command) : commandOf c.code = some c := by cases c <;> rfl

theorem commandOf_eq_none_iff (code : BitVec 8) : commandOf code = none ↔ ¬ (1 ≤ code.toNat ∧ code.toNat ≤ 0x11) := by
  revert code
  decide

/-- R133: a command row is the delivery of its code at the command unit. -/
theorem exec_of_deliveredBy {i : Instr} {p : Privilege} {code : BitVec 8} (h : deliveredBy i = some (p, code)) (s : State) :
    exec i s = event s.live (fun u => u.deliver code p (commandOf code)) s := by
  have hrow (c : Command) (q : Privilege) (hc : some (q, c.code) = some (p, code)) :
      event s.live (deliverCommand c q) s = event s.live (fun u => u.deliver code p (commandOf code)) s := by
    cases hc
    rw [commandOf_code]
    rfl
  cases i with
  | refresh q => exact hrow .refresh q h
  | loadPolicy q => exact hrow .loadPolicy q h
  | commit q => exact hrow .commit q h
  | discard q => exact hrow .discard q h
  | setChain q => exact hrow .setChain q h
  | setChainAbort q => exact hrow .setChain q h
  | kick q => exact hrow .kick q h
  | flush q => exact hrow .flush q h
  | captureStart q => exact hrow .captureStart q h
  | captureStopNow q => exact hrow .captureStop q h
  | captureStopAtGroupEnd q => exact hrow .captureStop q h
  | mark q => exact hrow .mark q h
  | ack q => exact hrow .ack q h
  | noticeEnable q => exact hrow .noticeEnable q h
  | forceNotice q => exact hrow .forceNotice q h
  | clearDenials q => exact hrow .clearDenials q h
  | stats q => exact hrow .stats q h
  | setTiming q => exact hrow .setTiming q h
  | recordReset q => exact hrow .recordReset q h
  | unknownCommand q c =>
    rw [deliveredBy] at h
    split at h
    · cases h
    next hnames =>
      cases h
      refine if_neg ?_
      simpa [namesCommand] using hnames
  | _ => cases h

/-! ## Events -/

/-- The effects of the events of the table, each with the condition of its row: the state an event makes before the close
and flush conditions are judged. -/
inductive EventEffect (s : State) : State → Prop where
  | takeRequest (r : Request) (hwf : r.wellFormed = true) (hopen : s.portOpen = true) : EventEffect s (s.takeRequest r)
  | grant (w : Requester) (hw : s.winner = some w) (hopen : s.grantOpen = true) : EventEffect s (s.grant w)
  | completePass (e : IssueEntry) (q : QueueEntry) (ans : MemResponse) (h : s.passAnswering = some (e, q)) :
      EventEffect s (s.completePass q ans)
  | takeFetch (e : IssueEntry) (i : StreamId) (ans : MemResponse) (h : s.walkerAnswering = some (e, i, .fetch)) :
      EventEffect s (s.popIssued.takeFetch i ans)
  | takeBurst (e : IssueEntry) (i : StreamId) (rs : List Record) (code : RespCode)
      (h : s.walkerAnswering = some (e, i, .burst rs)) : EventEffect s (s.popIssued.takeBurst i rs code)
  | takeStatus (e : IssueEntry) (i : StreamId) (code : RespCode) (h : s.walkerAnswering = some (e, i, .status)) :
      EventEffect s (s.popIssued.takeStatus i code)
  | reportCompleted (w : ReportWrite) (code : RespCode) (h : s.reportAnswering = some w) :
      EventEffect s (s.popIssued.reportCompleted w code)
  | statsCompleted (g : StatsEngine) (code : RespCode) (h : s.statsAnswering = some g) :
      EventEffect s (s.popIssued.statsCompleted g code)
  | policyRead (e : IssueEntry) (l : Loader) (ans : MemResponse) (h : s.loaderAnswering = some (e, l)) :
      EventEffect s (s.popIssued.policyRead l ans)
  | drained (h : 0 < s.arbiter.drain) :
      EventEffect s { s with arbiter := { s.arbiter with drain := s.arbiter.drain - 1 } }
  | discarded (h : s.answerUnowned = true) : EventEffect s s.popIssued
  | endDelivery (h : s.headDelivers = true) : EventEffect s s.endDelivery
  | counts : EventEffect s { s with time := { s.time with prescale := s.time.prescale + 1 } }
  | advance (h : s.advanceDue = true) : EventEffect s s.advance
  | judged : EventEffect s s
  | takeArguments (wc : WriteCompletion) : EventEffect s (s.takeArguments wc)
  | deliver (code : BitVec 8) (p : Privilege) (c : Option Command) : EventEffect s (s.deliver code p c)

/-- What an event can answer with a next state: the state stands, RESET is asserted or released, or an event of the part
takes its effect, which the judgement of the walkers ends. -/
def NextCases (s t : State) : Prop :=
  t = s ∨ (∃ a m, t = s.assertReset a m) ∨ (s.resetAsserted = true ∧ ∃ a m, t = s.releaseReset a m) ∨
    ∃ u, EventEffect s u ∧ t = u.settle

theorem NextCases.stands (s : State) : NextCases s s := .inl rfl

/-- An event's outcome, where its effect is one of the table's. -/
theorem nextCases_of_event {s t : State} {enabled : Bool} {f : State → State}
    (hf : enabled = true → EventEffect s (f s)) (h : event enabled f s = .next t) : NextCases s t := by
  cases h
  cases enabled
  · exact .stands s
  · exact .inr (.inr (.inr ⟨_, hf rfl, rfl⟩))

theorem nextCases_of_delivery {i : Instr} {s t : State} {p : Privilege} {code : BitVec 8}
    (hrow : deliveredBy i = some (p, code)) (h : exec i s = .next t) : NextCases s t := by
  rw [exec_of_deliveredBy hrow] at h
  exact nextCases_of_event (fun _ => .deliver code p _) h

theorem nextCases_of_execMemoryGrant {s t : State} (h : execMemoryGrant s = .next t) : NextCases s t := by
  unfold execMemoryGrant at h
  split at h
  next w hw => exact nextCases_of_event (fun hopen => .grant w hw hopen) h
  · cases h; exact .stands s

theorem nextCases_of_execPassMemoryCompletion {s t : State} {ans : MemResponse}
    (h : execPassMemoryCompletion ans s = .next t) : NextCases s t := by
  unfold execPassMemoryCompletion at h
  split at h
  next e q hq =>
    split at h
    · exact nextCases_of_event (fun _ => .completePass e q ans hq) h
    · cases h
  · cases h; exact .stands s

theorem nextCases_of_execDescriptorFetchCompletion {s t : State} {ans : MemResponse}
    (h : execDescriptorFetchCompletion ans s = .next t) : NextCases s t := by
  unfold execDescriptorFetchCompletion at h
  split at h
  next e i hi =>
    split at h
    · exact nextCases_of_event (fun _ => .takeFetch e i ans hi) h
    · cases h
  all_goals cases h; exact .stands s

theorem nextCases_of_execRecordBurstCompletion {s t : State} {code : RespCode}
    (h : execRecordBurstCompletion code s = .next t) : NextCases s t := by
  unfold execRecordBurstCompletion at h
  split at h
  next e i rs hi => exact nextCases_of_event (fun _ => .takeBurst e i rs code hi) h
  all_goals cases h; exact .stands s

theorem nextCases_of_execStatusWriteCompletion {s t : State} {code : RespCode}
    (h : execStatusWriteCompletion code s = .next t) : NextCases s t := by
  unfold execStatusWriteCompletion at h
  split at h
  next e i hi => exact nextCases_of_event (fun _ => .takeStatus e i code hi) h
  all_goals cases h; exact .stands s

theorem nextCases_of_execReportWriteCompletion {s t : State} {code : RespCode}
    (h : execReportWriteCompletion code s = .next t) : NextCases s t := by
  unfold execReportWriteCompletion at h
  split at h
  next w hw => exact nextCases_of_event (fun _ => .reportCompleted w code hw) h
  · cases h; exact .stands s

theorem nextCases_of_execStatsBurstCompletion {s t : State} {code : RespCode}
    (h : execStatsBurstCompletion code s = .next t) : NextCases s t := by
  unfold execStatsBurstCompletion at h
  split at h
  next g hg => exact nextCases_of_event (fun _ => .statsCompleted g code hg) h
  · cases h; exact .stands s

theorem nextCases_of_execPolicyReadCompletion {s t : State} {ans : MemResponse}
    (h : execPolicyReadCompletion ans s = .next t) : NextCases s t := by
  unfold execPolicyReadCompletion at h
  split at h
  next e l hl =>
    split at h
    · exact nextCases_of_event (fun _ => .policyRead e l ans hl) h
    · cases h
  · cases h; exact .stands s

theorem nextCases_of_execResetRelease {s t : State} {a : BitVec 4} {m : StartMode}
    (h : execResetRelease a m s = .next t) : NextCases s t := by
  cases h
  split
  case isTrue hasserted => exact .inr (.inr (.inl ⟨hasserted, a, m, rfl⟩))
  case isFalse => exact .stands s

theorem clockTick_effect (s : State) : EventEffect s s.clockTick := by
  unfold State.clockTick
  split
  case isTrue hdue => exact .advance hdue
  case isFalse => exact .counts

/-- R103: the event of a linger close is the judgement alone, or an advance that is due. -/
theorem lingerEvent_effect {s : State} {i : StreamId} (h : (s.lingerHolds i || s.lingerDue i) = true) :
    EventEffect s (s.lingerEvent i) := by
  unfold State.lingerEvent
  split
  case isTrue => exact .judged
  case isFalse hstands =>
    refine .advance ?_
    simp only [hstands, State.lingerDue, Bool.false_or, Bool.and_eq_true] at h
    exact h.1

/-- Every row of the table. -/
theorem exec_cases {i : Instr} {s t : State} (h : exec i s = .next t) : NextCases s t := by
  cases i with
  | reset a m => cases h; exact .inr (.inl ⟨a, m, rfl⟩)
  | resetRelease a m => exact nextCases_of_execResetRelease h
  | decisionPoint r =>
    by_cases hwf : r.wellFormed = true
    · exact nextCases_of_event (fun hopen => .takeRequest r hwf hopen) ((if_pos hwf).symm.trans h)
    · cases (if_neg hwf).symm.trans h
  | memoryGrant => exact nextCases_of_execMemoryGrant h
  | passMemoryCompletion x => exact nextCases_of_execPassMemoryCompletion h
  | descriptorFetchCompletion x => exact nextCases_of_execDescriptorFetchCompletion h
  | recordBurstCompletion c => exact nextCases_of_execRecordBurstCompletion h
  | statusWriteCompletion c => exact nextCases_of_execStatusWriteCompletion h
  | reportWriteCompletion c => exact nextCases_of_execReportWriteCompletion h
  | statsBurstCompletion c => exact nextCases_of_execStatsBurstCompletion h
  | policyReadCompletion x => exact nextCases_of_execPolicyReadCompletion h
  | drainResponse x =>
    dsimp only [exec, execDrainResponse] at h
    exact nextCases_of_event (fun hdrain => .drained (by simpa using hdrain)) h
  | voidAnswerDiscard x =>
    dsimp only [exec, execVoidAnswerDiscard] at h
    exact nextCases_of_event (fun hunowned => .discarded hunowned) h
  | deliveryEnd =>
    dsimp only [exec, execDeliveryEnd] at h
    exact nextCases_of_event (fun hend => .endDelivery (by simp_all)) h
  | tickAdvance =>
    dsimp only [exec, execTickAdvance] at h
    exact nextCases_of_event (fun hdue => .advance (by simp_all)) h
  | quietTimerExpiry =>
    dsimp only [exec, execQuietTimerExpiry] at h
    exact nextCases_of_event (fun hdue => .advance (by simp_all)) h
  | lingerClose i =>
    dsimp only [exec, execLingerClose] at h
    exact nextCases_of_event (fun hdue => lingerEvent_effect (by simp_all)) h
  | clock =>
    dsimp only [exec, execClock] at h
    exact nextCases_of_event (fun _ => clockTick_effect s) h
  | anchorArgumentWrite wc =>
    by_cases hwf : wc.wellFormed = true
    · exact nextCases_of_event (fun _ => .takeArguments wc) ((if_pos hwf).symm.trans h)
    · cases (if_neg hwf).symm.trans h
  | unknownCommand p c =>
    by_cases hnames : namesCommand c = true
    · cases (if_pos hnames).symm.trans h
    · exact nextCases_of_event (fun _ => .deliver c p _) ((if_neg hnames).symm.trans h)
  | refresh p | loadPolicy p | commit p | discard p | setChain p | setChainAbort p | kick p | flush p | captureStart p
  | captureStopNow p | captureStopAtGroupEnd p | mark p | ack p | noticeEnable p | forceNotice p | clearDenials p | stats p
  | setTiming p | recordReset p => exact nextCases_of_delivery rfl h

/-- The induction of every invariant: what RESET and its release, every event's effect and the judgement that ends an event
keep, a step keeps. -/
theorem step_keeps {P : State → Prop} (hqueue : ∀ s rest, P s → P { s with pending := rest })
    (hreset : ∀ s a m, P s → P (s.assertReset a m)) (hrelease : ∀ s a m, P s → P (s.releaseReset a m))
    (heffect : ∀ s u, P s → EventEffect s u → P u) (hsettle : ∀ s, P s → P s.settle) {s t : State} (hs : P s)
    (h : step s = .next t) : P t := by
  unfold step at h
  split at h
  · cases h; exact hs
  next i rest _ =>
    have hrest := hqueue s rest hs
    obtain rfl | ⟨a, m, rfl⟩ | ⟨-, a, m, rfl⟩ | ⟨u, hu, rfl⟩ := exec_cases h
    · exact hrest
    · exact hreset _ a m hrest
    · exact hrelease _ a m hrest
    · exact hsettle u (heffect _ u hrest hu)

/-! ## Memory completion of a forwarded transaction -/

/-- The watchers' and the capture unit's shares of a completion as one induction, whatever their order (R31): what each of
them keeps, the completion keeps. -/
theorem State.completePass_keeps {P : State → Prop} {s : State} (q : QueueEntry) (ans : MemResponse)
    (hstored : P (s.popIssued.storeResponse ans)) (hdrawn : ∀ u k, P u → P (u.drawn k))
    (hfault : ∀ u r, P u → P (u.memoryFault r)) (hcaptured : ∀ u, P u → P (u.takeCaptured ans))
    (hends : ∀ u, P u → P u.endDueGroups) (hwalkers : ∀ u width wc, P u → P (u.offerToWalkers width wc))
    (hcommand : ∀ u wc, P u → P (u.commandUnit wc)) : P (s.completePass q ans) := by
  have hite {c : Prop} [Decidable c] {u v : State} (hu : P u) (hv : P v) : P (if c then u else v) := by
    split
    · exact hu
    · exact hv
  have hstep (k : Nat) {u : State} (hu : P u) : P (captureStep ans q.captureLink k u) :=
    hite (hite (hcaptured u hu) (hends u hu)) hu
  have hwrite (o : CompletionOrder) (width : Nat) (wc : WriteCompletion) {u : State} (hu : P u) :
      P (u.offerWrite o width wc ans q.captureLink) := by
    have h1 := hite (c := 1 ≤ o.captureSteps) (hstep 0 hu) hu
    have h2 := hite (c := 2 ≤ o.captureSteps) (hstep 1 h1) h1
    have h3 := hite (c := o.walkersFirst = true) (hwalkers _ width wc h2) h2
    have h4 := hcommand _ wc h3
    have h5 := hite (c := o.walkersFirst = true) h4 (hwalkers _ width wc h4)
    have h6 := hite (c := 1 ≤ o.captureSteps) h5 (hstep 0 h5)
    exact hite (c := 2 ≤ o.captureSteps) h6 (hstep 1 h6)
  simp only [State.completePass, State.completionEffects]
  split
  · exact hstep 1 (hstep 0 (hfault _ _ hstored))
  · simp only [State.completeWrite]
    split
    · exact hwrite _ _ _ (hdrawn _ 3 hstored)
    · exact hwrite _ _ _ hstored
  · exact hstep 1 (hstep 0 hstored)
  · exact hstep 1 (hstep 0 hstored)

/-- The command unit takes a completion as its argument beats, and with a command beat as a delivery behind them. -/
theorem State.commandUnit_keeps {P : State → Prop} {s : State} (wc : WriteCompletion) (harguments : P (s.takeArguments wc))
    (hdeliver : ∀ u code p c, P u → P (u.deliver code p c)) : P (s.commandUnit wc) := by
  unfold State.commandUnit
  split
  · exact hdeliver _ _ _ _ harguments
  · exact harguments

end Sys2Proof.Machine
end

section
/-! SUPPORT. What each shared operation does to the notices raised and to the dirty flags (R159, R162), and what the capture
unit's operations make of the capture unit and of the two streams (R64, R70, R72). -/

namespace Sys2Proof.Machine

/-! ## Notices raised (R162) -/

theorem Notice.getLsbD_mask (n m : Notice) : n.mask.getLsbD m.bit = decide (m = n) := by
  cases n <;> cases m <;> rfl

theorem Section.getLsbD_mask (c d : Section) : c.mask.getLsbD d.index = decide (d = c) := by
  cases c <;> cases d <;> rfl

theorem State.isRaised_congr {s t : State} (h : t.notices = s.notices) (n : Notice) : t.isRaised n = s.isRaised n := by
  simp only [State.isRaised, h]

@[simp] theorem State.isRaised_raise (s : State) (n m : Notice) :
    (s.raise n).isRaised m = (s.isRaised m || decide (m = n)) := by
  simp only [State.raise_eq, State.isRaised, BitVec.getLsbD_or, Notice.getLsbD_mask]

@[simp] theorem State.isRaised_markDirty (s : State) (c : Section) (m : Notice) :
    (s.markDirty c).isRaised m = s.isRaised m := rfl

@[simp] theorem State.isRaised_markDirtyIf (s : State) (b : Bool) (c : Section) (m : Notice) :
    (s.markDirtyIf b c).isRaised m = s.isRaised m := State.isRaised_congr (by simp) m

@[simp] theorem State.isRaised_setCapture (s : State) (c : CaptureUnit) (m : Notice) :
    (s.setCapture c).isRaised m = s.isRaised m := rfl

@[simp] theorem State.isRaised_setStream (s : State) (i : StreamId) (x : RecordStream) (m : Notice) :
    (s.setStream i x).isRaised m = s.isRaised m := State.isRaised_congr (by simp) m

@[simp] theorem State.isRaised_setWalker (s : State) (i : StreamId) (w : Walker) (m : Notice) :
    (s.setWalker i w).isRaised m = s.isRaised m := State.isRaised_congr (by simp) m

@[simp] theorem State.isRaised_moveWalker (s : State) (i : StreamId) (w : Walker) (m : Notice) :
    (s.moveWalker i w).isRaised m = s.isRaised m := State.isRaised_congr (by simp) m

/-- R83: counting records lost raises the stream's loss notice. -/
@[simp] theorem State.isRaised_countLost (s : State) (i : StreamId) (k : Nat) (m : Notice) :
    (s.countLost i k).isRaised m = (s.isRaised m || (decide (k ≠ 0) && decide (m = i.lossNotice))) := by
  unfold State.countLost
  by_cases hk : k = 0 <;> simp [hk]

/-- R80, R83: an offer raises the stream's loss notice where there is no room. -/
@[simp] theorem State.isRaised_offer (s : State) (i : StreamId) (r : Record) (m : Notice) :
    (s.offer i r).isRaised m = (s.isRaised m || (decide (m = i.lossNotice) && (s.stream i).hasNoRoom i r)) := by
  unfold State.offer
  rw [State.accepts_eq]
  cases (s.stream i).hasNoRoom i r
  · by_cases hlost : (s.stream i).lost = 0 <;> simp [hlost]
  · simp

/-- R136: a result raises COMMAND_DONE. -/
@[simp] theorem State.isRaised_setResult (s : State) (c : BitVec 8) (r : Result) (f : Nat) (n : BitVec 8) (m : Notice) :
    (s.setResult c r f n).isRaised m = (s.isRaised m || decide (m = .commandDone)) := by
  unfold State.setResult
  rw [State.isRaised_raise]
  rfl

@[simp] theorem State.isRaised_answer (s : State) (c : Command) (r : Result) (n : BitVec 8) (m : Notice) :
    (s.answer c r n).isRaised m = (s.isRaised m || decide (m = .commandDone)) := State.isRaised_setResult ..

/-- A completion handed back raises no notice but COMMAND_DONE. -/
theorem State.isRaised_finish_of_ne (s : State) (w : Option StreamId) (r : Result) (f : Nat) {m : Notice}
    (h : m ≠ .commandDone) : (s.finish w r f).isRaised m = s.isRaised m := by
  unfold State.finish
  split
  · split
    · rw [State.isRaised_setResult, decide_eq_false h, Bool.or_false]
      rfl
    · rfl
  · rfl

/-- The flush and close judgement of the walkers raises no notice but COMMAND_DONE. -/
theorem State.isRaised_endFlush_of_ne (s : State) (i : StreamId) (r : Result) {m : Notice} (h : m ≠ .commandDone) :
    (s.endFlush i r).isRaised m = s.isRaised m := by
  rw [State.endFlush, State.isRaised_finish_of_ne _ _ _ _ h, State.isRaised_setWalker]

theorem State.isRaised_cutFlush_of_ne (s : State) (i : StreamId) (r : Result) {m : Notice} (h : m ≠ .commandDone) :
    (s.cutFlush i r).isRaised m = s.isRaised m := by
  unfold State.cutFlush
  split
  · exact State.isRaised_endFlush_of_ne s i r h
  · rfl

/-- A notice that is raised stays raised through a completion handed back. -/
theorem State.isRaised_finish_of_isRaised {s : State} {m : Notice} (h : s.isRaised m = true) (w : Option StreamId)
    (r : Result) (f : Nat) : (s.finish w r f).isRaised m = true := by
  unfold State.finish
  split
  · split
    · rw [State.isRaised_setResult, Bool.or_eq_true]
      exact .inl h
    · exact h
  · exact h

theorem State.isRaised_settleWalker_of_ne (s : State) (i : StreamId) {m : Notice} (h : m ≠ .commandDone) :
    (s.settleWalker i).isRaised m = s.isRaised m := by
  have hflush : (s.settleFlush i).isRaised m = s.isRaised m := by
    unfold State.settleFlush
    split
    · exact State.isRaised_endFlush_of_ne s i .done h
    · rfl
  unfold State.settleWalker
  dsimp only
  split
  · rw [← hflush]
    exact State.isRaised_congr (by simp) m
  · rw [← hflush]
    exact State.isRaised_congr (by simp) m

@[simp] theorem State.isRaised_settle_of_ne (s : State) {m : Notice} (h : m ≠ .commandDone) :
    s.settle.isRaised m = s.isRaised m := by
  rw [State.settle, State.isRaised_settleWalker_of_ne _ _ h, State.isRaised_settleWalker_of_ne _ _ h]

theorem State.isRaised_settleWalker_of_isRaised {s : State} {m : Notice} (h : s.isRaised m = true) (i : StreamId) :
    (s.settleWalker i).isRaised m = true := by
  have hflush : (s.settleFlush i).isRaised m = true := by
    unfold State.settleFlush
    split
    · exact State.isRaised_finish_of_isRaised (by simpa using h) ..
    · exact h
  unfold State.settleWalker
  dsimp only
  split
  · rw [← hflush]
    exact State.isRaised_congr (by simp) m
  · rw [← hflush]
    exact State.isRaised_congr (by simp) m

/-- The judgement that ends an event clears no notice. -/
theorem State.isRaised_settle_of_isRaised {s : State} {m : Notice} (h : s.isRaised m = true) :
    s.settle.isRaised m = true :=
  State.isRaised_settleWalker_of_isRaised (State.isRaised_settleWalker_of_isRaised h _) _

/-! ## Dirty flags (R159) -/

theorem State.isDirty_congr {s t : State} (h : t.report = s.report) (c : Section) : t.isDirty c = s.isDirty c := by
  simp only [State.isDirty, h]

@[simp] theorem State.isDirty_markDirty (s : State) (c d : Section) :
    (s.markDirty c).isDirty d = (s.isDirty d || decide (d = c)) := by
  simp only [State.isDirty, State.markDirty_report, BitVec.getLsbD_or, Section.getLsbD_mask]

@[simp] theorem State.isDirty_markDirtyIf (s : State) (b : Bool) (c d : Section) :
    (s.markDirtyIf b c).isDirty d = (s.isDirty d || (b && decide (d = c))) := by
  cases b <;> simp [State.markDirtyIf]

/-- R162: a notice raised anew dirties the notices section. -/
@[simp] theorem State.isDirty_raise (s : State) (n : Notice) (d : Section) :
    (s.raise n).isDirty d = (s.isDirty d || (!s.isRaised n && decide (d = .notices))) := by
  unfold State.raise
  cases s.isRaised n
  · simp only [Bool.false_eq_true, if_false, State.isDirty_markDirty, Bool.not_false, Bool.true_and]
    rfl
  · simp

@[simp] theorem State.isDirty_setCapture (s : State) (c : CaptureUnit) (d : Section) :
    (s.setCapture c).isDirty d = s.isDirty d := rfl

@[simp] theorem State.isDirty_setStream (s : State) (i : StreamId) (x : RecordStream) (d : Section) :
    (s.setStream i x).isDirty d = s.isDirty d := State.isDirty_congr (by simp) d

@[simp] theorem State.isDirty_setWalker (s : State) (i : StreamId) (w : Walker) (d : Section) :
    (s.setWalker i w).isDirty d = s.isDirty d := State.isDirty_congr (by simp) d

/-- R94: a walker that changes its state dirties its stream's section. -/
@[simp] theorem State.isDirty_moveWalker (s : State) (i : StreamId) (w : Walker) (d : Section) :
    (s.moveWalker i w).isDirty d =
      (s.isDirty d || (decide (w.state ≠ (s.walker i).state) && decide (d = i.reportSection))) := by
  rw [State.moveWalker, State.isDirty_markDirtyIf, State.isDirty_setWalker]

theorem State.isDirty_setResult (s : State) (c : BitVec 8) (r : Result) (f : Nat) (n : BitVec 8) (d : Section) :
    (s.setResult c r f n).isDirty d =
      (s.isDirty d || decide (d = .result) || (!s.isRaised .commandDone && decide (d = .notices))) := by
  unfold State.setResult
  rw [State.isDirty_raise, State.isDirty_markDirty]
  rfl

/-- A section that is dirty stays dirty through a completion handed back. -/
theorem State.isDirty_finish_of_isDirty {s : State} {d : Section} (h : s.isDirty d = true) (w : Option StreamId)
    (r : Result) (f : Nat) : (s.finish w r f).isDirty d = true := by
  unfold State.finish
  split
  · split
    · rw [State.isDirty_setResult, Bool.or_eq_true, Bool.or_eq_true]
      exact .inl (.inl h)
    · exact h
  · exact h

theorem State.isDirty_settleClose_of_isDirty {s : State} {d : Section} (h : s.isDirty d = true) (i : StreamId)
    (b : Bool) : (s.settleClose i b).isDirty d = true := by
  unfold State.settleClose
  dsimp only
  repeat' split
  all_goals simp [State.closeBuffer, h]

theorem State.isDirty_settleWalker_of_isDirty {s : State} {d : Section} (h : s.isDirty d = true) (i : StreamId) :
    (s.settleWalker i).isDirty d = true := by
  have hflush : (s.settleFlush i).isDirty d = true := by
    unfold State.settleFlush
    split
    · exact State.isDirty_finish_of_isDirty (by simpa using h) ..
    · exact h
  unfold State.settleWalker
  dsimp only
  split
  · exact State.isDirty_settleClose_of_isDirty (s := (s.settleFlush i).drawn 1) hflush i _
  · exact State.isDirty_settleClose_of_isDirty hflush i _

/-- The judgement that ends an event clears no dirty flag. -/
theorem State.isDirty_settle_of_isDirty {s : State} {d : Section} (h : s.isDirty d = true) : s.settle.isDirty d = true :=
  State.isDirty_settleWalker_of_isDirty (State.isDirty_settleWalker_of_isDirty h _) _

/-! ## The capture unit's own operations -/

/-- R72: a change of the capture state touches no other field of the unit. -/
@[simp] theorem State.capture_changeCapture (s : State) (c : CaptureState) :
    (s.changeCapture c).capture = { s.capture with state := c } := by
  unfold State.changeCapture
  split
  next h => rw [← h]
  · simp

@[simp] theorem State.captureStream_changeCapture (s : State) (c : CaptureState) :
    (s.changeCapture c).captureStream = s.captureStream := by
  unfold State.changeCapture
  split <;> simp

/-- R72: one CAPTURE_STATE record for each change of state. -/
theorem State.eventStream_changeCapture (s : State) (c : CaptureState) :
    (s.changeCapture c).eventStream =
      if c = s.capture.state then s.eventStream
      else s.eventStream.afterOffer .event s.time.tick
        (.captureState s.capture.state c s.capture.groupNumber s.time.tick) := by
  unfold State.changeCapture
  by_cases h : s.capture.state = c
  · simp [h]
  · rw [if_neg h, if_neg (Ne.symm h), State.eventStream_offer]
    simp

/-- R72: a change of the capture state raises CAPTURE_STATE. -/
theorem State.isRaised_changeCapture {s : State} {c : CaptureState} (h : s.capture.state ≠ c) :
    (s.changeCapture c).isRaised .captureState = true := by
  simp [State.changeCapture, h]

@[simp] theorem State.eventStream_offerDue (gs : List ClosedGroup) (s : State) :
    (s.offerDue gs).eventStream = s.eventStream := by
  induction gs generalizing s with
  | nil => simp [State.offerDue]
  | cons g gs ih =>
    simp only [State.offerDue]
    split <;> simp [ih]

@[simp] theorem State.eventStream_endDueGroups (s : State) : s.endDueGroups.eventStream = s.eventStream :=
  State.eventStream_offerDue ..

/-- R70: the GROUP_ENDs that are due leave the owed list. -/
@[simp] theorem State.capture_endDueGroups (s : State) :
    s.endDueGroups.capture = { s.capture with owed := stillOwed s.capture.pendingList s.capture.owed } :=
  State.capture_offerDue ..

theorem State.captureStream_endDueGroups (s : State) :
    s.endDueGroups.captureStream =
      s.captureStream.afterGroupEnds s.time.tick s.capture.pendingList s.capture.owed :=
  State.captureStream_offerDue ..

/-- What a close makes of the capture unit (R64, R70): the number advances, the timer is idle, and the closed group joins the
owed list, from whose head the groups that are due leave. -/
def CaptureUnit.closed (c : CaptureUnit) (g : OpenGroup) (reason : GroupReason) (tick : Word) : CaptureUnit :=
  { c with
    state := closedState c.state reason c.trigger.oneShot
    groupNumber := c.groupNumber + 1, openGroup := none, quietTimer := none
    owed := stillOwed c.pendingList (c.owed ++ [g.close reason tick]) }

theorem State.closeGroup_of_none {s : State} (h : s.capture.openGroup = none) (reason : GroupReason) :
    s.closeGroup reason = s := by
  simp only [State.closeGroup, h]

section CloseGroup
variable {s : State} {g : OpenGroup} (h : s.capture.openGroup = some g) (reason : GroupReason)
include h

/-- The steps of a close, by name: the group is owed, the groups that are due end, and the state changes. -/
theorem State.closeGroup_of_some :
    s.closeGroup reason = (((s.setCapture { s.capture with
      groupNumber := s.capture.groupNumber + 1, openGroup := none, quietTimer := none
      owed := s.capture.owed ++ [g.close reason s.time.tick] }).markDirty .capture).endDueGroups).changeCapture
        (closedState s.capture.state reason s.capture.trigger.oneShot) := by
  simp only [State.closeGroup, h]

theorem State.capture_closeGroup : (s.closeGroup reason).capture = s.capture.closed g reason s.time.tick := by
  rw [State.closeGroup_of_some h]
  simp [CaptureUnit.closed]

theorem State.captureStream_closeGroup :
    (s.closeGroup reason).captureStream =
      s.captureStream.afterGroupEnds s.time.tick s.capture.pendingList
        (s.capture.owed ++ [g.close reason s.time.tick]) := by
  rw [State.closeGroup_of_some h]
  simp [State.captureStream_endDueGroups]

theorem State.eventStream_closeGroup :
    (s.closeGroup reason).eventStream =
      if closedState s.capture.state reason s.capture.trigger.oneShot = s.capture.state then s.eventStream
      else s.eventStream.afterOffer .event s.time.tick
        (.captureState s.capture.state (closedState s.capture.state reason s.capture.trigger.oneShot)
          (s.capture.groupNumber + 1) s.time.tick) := by
  rw [State.closeGroup_of_some h, State.eventStream_changeCapture]
  simp

theorem State.isRaised_closeGroup (hstate : closedState s.capture.state reason s.capture.trigger.oneShot ≠ s.capture.state) :
    (s.closeGroup reason).isRaised .captureState = true := by
  rw [State.closeGroup_of_some h]
  exact State.isRaised_changeCapture (by simpa using hstate.symm)

end CloseGroup

/-! ## Triggers and considered accesses -/

/-- R59: does the entry fire the trigger? -/
def CaptureUnit.firesOnEntry (c : CaptureUnit) (k : Nat) : Prop :=
  c.state = .armed ∧ c.trigger.kind = .onEntry ∧ c.trigger.entry = k

theorem State.fireOnEntry_of_fires {s : State} {k : Nat} (h : s.capture.firesOnEntry k) :
    s.fireOnEntry k = s.changeCapture .running := if_pos h

theorem State.fireOnEntry_of_not_fires {s : State} {k : Nat} (h : ¬ s.capture.firesOnEntry k) : s.fireOnEntry k = s :=
  if_neg h

/-- R59: the trigger changes the capture state alone, and only to RUNNING. -/
theorem State.capture_fireOnEntry (s : State) (k : Nat) :
    (s.fireOnEntry k).capture = s.capture ∨ (s.capture.state = .armed ∧
      (s.fireOnEntry k).capture = { s.capture with state := .running }) := by
  by_cases h : s.capture.firesOnEntry k
  · rw [State.fireOnEntry_of_fires h, State.capture_changeCapture]
    exact .inr ⟨h.1, rfl⟩
  · rw [State.fireOnEntry_of_not_fires h]
    exact .inl rfl

/-- The trigger reads the capture unit alone. -/
theorem State.capture_fireOnEntry_congr {s t : State} (h : t.capture = s.capture) (k : Nat) :
    (t.fireOnEntry k).capture = (s.fireOnEntry k).capture := by
  by_cases hfires : s.capture.firesOnEntry k
  · rw [State.fireOnEntry_of_fires hfires, State.fireOnEntry_of_fires (h ▸ hfires), State.capture_changeCapture,
      State.capture_changeCapture, h]
  · rw [State.fireOnEntry_of_not_fires hfires, State.fireOnEntry_of_not_fires (h ▸ hfires), h]

/-- R58: the trigger changes the capture state alone, and only to RUNNING. -/
theorem State.capture_fireOnDenial (s : State) :
    s.fireOnDenial.capture = if s.denialTriggers = true then { s.capture with state := .running } else s.capture := by
  unfold State.fireOnDenial
  split <;> simp

/-- The capture unit of a captured access before a close by LIMIT (R61). -/
def CaptureUnit.capturing (c : CaptureUnit) (p : PendingEntry) : CaptureUnit :=
  { c with
    openGroup := some { c.groupForCapture with produced := groupCount c.groupForCapture.produced 1 }
    pendingList := c.pendingList ++ [p]
    quietTimer := c.trigger.quietStart }

/-- The pending entry of an access captured now (R65). -/
def CaptureUnit.pendingEntry (c : CaptureUnit) (r : Request) (d : DecisionRecord) (e : Eligibility) (k : Nat) :
    PendingEntry := pendingOf c.groupForCapture.number r d e k

/-- R61: an access is captured into its group, whose close by LIMIT follows where the count reaches it. -/
theorem State.captureAccess_eq (s : State) (r : Request) (d : DecisionRecord) (e : Eligibility) (k : Nat) :
    ∃ b, s.captureAccess r d e k =
      if s.capture.trigger.limit ≠ 0 ∧ groupCount s.capture.groupForCapture.produced 1 = s.capture.trigger.limit then
        ((s.setCapture (s.capture.capturing (s.capture.pendingEntry r d e k))).markDirtyIf b .capture).closeGroup .limit
      else (s.setCapture (s.capture.capturing (s.capture.pendingEntry r d e k))).markDirtyIf b .capture := ⟨_, rfl⟩

/-- R60: an access that is considered is captured at counter 1, and else is a skip. -/
theorem State.consider_cases (s : State) (r : Request) (d : DecisionRecord) (e : Eligibility) (k : Nat) :
    (s.capturesNow k = false ∧ s.capture.state.considers = false ∧ s.consider r d e k = s) ∨
      (s.capturesNow k = true ∧ s.capture.state.considers = true ∧ s.counter k ≤ 1 ∧
        s.consider r d e k = (s.setCounter k e.factor).captureAccess r d e k) ∨
      (s.capturesNow k = false ∧ s.capture.state.considers = true ∧ 1 < s.counter k ∧
        s.consider r d e k = (s.setCounter k (s.counter k - 1)).countSkip) := by
  unfold State.consider State.capturesNow
  cases hconsiders : s.capture.state.considers
  · exact .inl ⟨rfl, rfl, rfl⟩
  · by_cases hcount : s.counter k - 1 = 0
    · exact .inr (.inl ⟨by simp [hcount], rfl, by omega, by simp [hcount]⟩)
    · exact .inr (.inr ⟨by simp [hcount], rfl, by omega, by simp [hcount]⟩)

/-- R60: a skip adds one to the open group's skip count. -/
theorem State.capture_countSkip (s : State) :
    s.countSkip.capture = { s.capture with
      openGroup := s.capture.openGroup.map fun g => { g with skips := groupCount g.skips 1 } } := by
  unfold State.countSkip
  split
  next g hg => simp [hg]
  next hnone => rw [hnone, Option.map_none, ← hnone]

/-- R66, R69: what a completion makes of the capture unit: the head of the pending list leaves it, and its record, unless it
is void, may be lost in its group. -/
theorem State.capture_takeCaptured (ans : MemResponse) (s : State) :
    (s.takeCaptured ans).capture = { s.capture with pendingList := s.capture.pendingList.tail } ∨
      ∃ number, (s.takeCaptured ans).capture =
        { s.capture with pendingList := s.capture.pendingList.tail }.countGroupLost number := by
  unfold State.takeCaptured
  split
  next hnone =>
    left
    rw [hnone, List.tail_nil, ← hnone]
  next p ps hpending =>
    dsimp only
    rw [hpending, List.tail_cons]
    split
    · exact .inl rfl
    · split
      · exact .inl (by simp)
      · exact .inr ⟨p.group, by simp⟩

end Sys2Proof.Machine
end

section
/-! SUPPORT. The frames of the largest effects: a command carried out, a delivery, a decision and a completion leave the
straps, the queue, the ports and the waiting events as they stand, but for what the statements on them name. -/

namespace Sys2Proof.Machine

@[simp] theorem State.stagedGivenUp_frame (s : State) :
    s.stagedGivenUp.anchorSel = s.anchorSel ∧ s.stagedGivenUp.resetAsserted = s.resetAsserted ∧
    s.stagedGivenUp.queue = s.queue ∧ s.stagedGivenUp.denial = s.denial ∧ s.stagedGivenUp.capture = s.capture ∧
    s.stagedGivenUp.eventStream = s.eventStream ∧ s.stagedGivenUp.captureStream = s.captureStream ∧
    s.stagedGivenUp.eventWalker = s.eventWalker ∧ s.stagedGivenUp.captureWalker = s.captureWalker ∧
    s.stagedGivenUp.arbiter = s.arbiter ∧ s.stagedGivenUp.command = s.command ∧ s.stagedGivenUp.notices = s.notices ∧
    s.stagedGivenUp.time = s.time ∧ s.stagedGivenUp.memoryPort = s.memoryPort ∧
    s.stagedGivenUp.processorPort = s.processorPort ∧ s.stagedGivenUp.freeCount = s.freeCount ∧
    s.stagedGivenUp.pending = s.pending := by
  simp [State.stagedGivenUp]

@[simp] theorem State.loadStarted_frame (s : State) (n : BitVec 8) :
    (s.loadStarted n).anchorSel = s.anchorSel ∧ (s.loadStarted n).resetAsserted = s.resetAsserted ∧
    (s.loadStarted n).queue = s.queue ∧ (s.loadStarted n).denial = s.denial ∧ (s.loadStarted n).capture = s.capture ∧
    (s.loadStarted n).eventStream = s.eventStream ∧ (s.loadStarted n).captureStream = s.captureStream ∧
    (s.loadStarted n).eventWalker = s.eventWalker ∧ (s.loadStarted n).captureWalker = s.captureWalker ∧
    (s.loadStarted n).arbiter = s.arbiter ∧ (s.loadStarted n).notices = s.notices ∧ (s.loadStarted n).time = s.time ∧
    (s.loadStarted n).memoryPort = s.memoryPort ∧ (s.loadStarted n).processorPort = s.processorPort ∧
    (s.loadStarted n).freeCount = s.freeCount ∧ (s.loadStarted n).pending = s.pending := by
  simp [State.loadStarted]

/-- No command touches the straps, the queue, the ports, the free choices or the waiting events, and none issues a
transaction. -/
theorem CommandEffect.frame {n : BitVec 8} {s u : State} (h : CommandEffect n s u) :
    u.anchorSel = s.anchorSel ∧ u.resetAsserted = s.resetAsserted ∧ u.queue = s.queue ∧ u.memoryPort = s.memoryPort ∧
      u.processorPort = s.processorPort ∧ u.freeCount = s.freeCount ∧ u.pending = s.pending := by
  cases h <;> simp

@[simp] theorem State.deliver_frame (s : State) (code : BitVec 8) (p : Privilege) (c : Option Command) :
    (s.deliver code p c).anchorSel = s.anchorSel ∧ (s.deliver code p c).resetAsserted = s.resetAsserted ∧
    (s.deliver code p c).queue = s.queue ∧ (s.deliver code p c).memoryPort = s.memoryPort ∧
    (s.deliver code p c).processorPort = s.processorPort ∧ (s.deliver code p c).freeCount = s.freeCount ∧
    (s.deliver code p c).pending = s.pending := by
  apply s.deliver_keeps code p c (P := fun u => u.anchorSel = s.anchorSel ∧ u.resetAsserted = s.resetAsserted ∧
    u.queue = s.queue ∧ u.memoryPort = s.memoryPort ∧ u.processorPort = s.processorPort ∧ u.freeCount = s.freeCount ∧
    u.pending = s.pending)
  · intro r
    simp
  · intro n u _ h
    exact h.frame

@[simp] theorem State.commandUnit_frame (s : State) (wc : WriteCompletion) :
    (s.commandUnit wc).anchorSel = s.anchorSel ∧ (s.commandUnit wc).resetAsserted = s.resetAsserted ∧
    (s.commandUnit wc).queue = s.queue ∧ (s.commandUnit wc).memoryPort = s.memoryPort ∧
    (s.commandUnit wc).processorPort = s.processorPort ∧ (s.commandUnit wc).freeCount = s.freeCount ∧
    (s.commandUnit wc).pending = s.pending := by
  unfold State.commandUnit
  split <;> simp [deliverCode]

@[simp] theorem State.takeRequest_frame (r : Request) (s : State) :
    (s.takeRequest r).anchorSel = s.anchorSel ∧ (s.takeRequest r).resetAsserted = s.resetAsserted ∧
    (s.takeRequest r).queue = (s.enqueue r (s.decisionRecord r)).queue ∧
    (s.takeRequest r).eventWalker = s.eventWalker ∧ (s.takeRequest r).captureWalker = s.captureWalker ∧
    (s.takeRequest r).arbiter = s.arbiter ∧ (s.takeRequest r).command = s.command ∧ (s.takeRequest r).time = s.time ∧
    (s.takeRequest r).memoryPort = s.memoryPort ∧ (s.takeRequest r).processorPort = s.processorPort ∧
    (s.takeRequest r).pending = s.pending := by
  unfold State.takeRequest
  dsimp only
  split <;> simp

@[simp] theorem State.completePass_frame (s : State) (q : QueueEntry) (ans : MemResponse) :
    (s.completePass q ans).anchorSel = s.anchorSel ∧ (s.completePass q ans).resetAsserted = s.resetAsserted ∧
    (s.completePass q ans).queue = (s.storeResponse ans).queue ∧ (s.completePass q ans).memoryPort = s.memoryPort ∧
    (s.completePass q ans).processorPort = s.processorPort ∧ (s.completePass q ans).pending = s.pending := by
  apply State.completePass_keeps q ans (P := fun u => u.anchorSel = s.anchorSel ∧ u.resetAsserted = s.resetAsserted ∧
    u.queue = (s.storeResponse ans).queue ∧ u.memoryPort = s.memoryPort ∧ u.processorPort = s.processorPort ∧
    u.pending = s.pending)
  · simp
  all_goals
    intros
    simp_all

@[simp] theorem State.statsCompleted_frame (g : StatsEngine) (code : RespCode) (s : State) :
    (s.statsCompleted g code).anchorSel = s.anchorSel ∧ (s.statsCompleted g code).resetAsserted = s.resetAsserted ∧
    (s.statsCompleted g code).queue = s.queue ∧ (s.statsCompleted g code).policy = s.policy ∧
    (s.statsCompleted g code).denial = s.denial ∧ (s.statsCompleted g code).capture = s.capture ∧
    (s.statsCompleted g code).eventStream = s.eventStream ∧
    (s.statsCompleted g code).captureStream = s.captureStream ∧
    (s.statsCompleted g code).eventWalker = s.eventWalker ∧
    (s.statsCompleted g code).captureWalker = s.captureWalker ∧ (s.statsCompleted g code).arbiter = s.arbiter ∧
    (s.statsCompleted g code).time = s.time ∧ (s.statsCompleted g code).memoryPort = s.memoryPort ∧
    (s.statsCompleted g code).processorPort = s.processorPort ∧ (s.statsCompleted g code).freeCount = s.freeCount ∧
    (s.statsCompleted g code).pending = s.pending := by
  simp only [State.statsCompleted]
  split <;> simp

@[simp] theorem State.policyRead_frame (l : Loader) (ans : MemResponse) (s : State) :
    (s.policyRead l ans).anchorSel = s.anchorSel ∧ (s.policyRead l ans).resetAsserted = s.resetAsserted ∧
    (s.policyRead l ans).queue = s.queue ∧ (s.policyRead l ans).denial = s.denial ∧
    (s.policyRead l ans).capture = s.capture ∧ (s.policyRead l ans).eventStream = s.eventStream ∧
    (s.policyRead l ans).captureStream = s.captureStream ∧ (s.policyRead l ans).eventWalker = s.eventWalker ∧
    (s.policyRead l ans).captureWalker = s.captureWalker ∧ (s.policyRead l ans).arbiter = s.arbiter ∧
    (s.policyRead l ans).time = s.time ∧ (s.policyRead l ans).memoryPort = s.memoryPort ∧
    (s.policyRead l ans).processorPort = s.processorPort ∧ (s.policyRead l ans).freeCount = s.freeCount ∧
    (s.policyRead l ans).pending = s.pending := by
  simp only [State.policyRead]
  split
  · simp
  · split <;> simp

@[simp] theorem State.reportCompleted_frame (w : ReportWrite) (code : RespCode) (s : State) :
    (s.reportCompleted w code).anchorSel = s.anchorSel ∧ (s.reportCompleted w code).resetAsserted = s.resetAsserted ∧
    (s.reportCompleted w code).queue = s.queue ∧ (s.reportCompleted w code).policy = s.policy ∧
    (s.reportCompleted w code).denial = s.denial ∧ (s.reportCompleted w code).capture = s.capture ∧
    (s.reportCompleted w code).eventStream = s.eventStream ∧
    (s.reportCompleted w code).captureStream = s.captureStream ∧
    (s.reportCompleted w code).eventWalker = s.eventWalker ∧
    (s.reportCompleted w code).captureWalker = s.captureWalker ∧ (s.reportCompleted w code).arbiter = s.arbiter ∧
    (s.reportCompleted w code).command = s.command ∧ (s.reportCompleted w code).time = s.time ∧
    (s.reportCompleted w code).memoryPort = s.memoryPort ∧
    (s.reportCompleted w code).processorPort = s.processorPort ∧ (s.reportCompleted w code).freeCount = s.freeCount ∧
    (s.reportCompleted w code).pending = s.pending := by
  cases code <;> simp [State.reportCompleted]

/-- A grant that is no PASS grant leaves the queue. -/
theorem State.queue_grant (s : State) (w : Requester) :
    (s.grant w).queue = if w = .pass then s.grantPass.queue else s.queue := by
  cases w <;> simp [State.grant, State.grantTo]

end Sys2Proof.Machine
end

section
/-! SUPPORT. No close or flush condition is left standing (R101, R103, R108): every event ends with the judgement. -/

namespace Sys2Proof.Machine

/-- Right after RESET both walkers are IDLE. -/
theorem State.settled_assertReset (s : State) (a : BitVec 4) (m : StartMode) : (s.assertReset a m).settled = true := rfl

/-- Settles O60: an event ends with the judgement, which leaves a settled state; RESET makes both walkers IDLE, and its
release touches nothing that the judgement reads. -/
theorem everyStepLeavesNoCloseConditionStanding : Obligations.EveryStepLeavesNoCloseConditionStanding := by
  intro s t hs hstep
  unfold step at hstep
  split at hstep
  · cases hstep
    exact hs
  · obtain rfl | ⟨a, m, rfl⟩ | ⟨-, a, m, rfl⟩ | ⟨u, -, rfl⟩ := exec_cases hstep
    · exact hs
    · exact State.settled_assertReset ..
    · exact hs
    · exact u.settle_settled

end Sys2Proof.Machine
end

section
/-! SUPPORT. The arbiter's bounds (R38, R118, R120, R121): a grant at an open port adds one issued transaction, an answer takes
one off, and RESET turns the issue list into the drain count. -/

namespace Sys2Proof.Machine

theorem State.arbiterLaw_congr {s t : State} (h : t.arbiter = s.arbiter) (hs : s.arbiterLaw) : t.arbiterLaw := by
  unfold State.arbiterLaw
  rw [h]
  exact hs

theorem State.arbiterLaw_popIssued {s : State} (hs : s.arbiterLaw) : s.popIssued.arbiterLaw := by
  obtain ⟨hissued, hdrain, hfair, hapart⟩ := hs
  refine ⟨?_, hdrain, hfair, fun h => ?_⟩
  · simp only [State.popIssued_arbiter, List.length_tail]
    omega
  · simp [hapart h]

theorem State.arbiterLaw_voidWalkers {s : State} (hs : s.arbiterLaw) : s.voidWalkers.arbiterLaw := by
  obtain ⟨hissued, hdrain, hfair, hapart⟩ := hs
  exact ⟨by simpa using hissued, hdrain, hfair, fun h => by simp [hapart h]⟩

/-- R120: the port takes a grant only with fewer than 8 issued and nothing owed to a drain. -/
theorem State.arbiterLaw_grant {s : State} {w : Requester} (hs : s.arbiterLaw) (hw : s.winner = some w)
    (hopen : s.grantOpen = true) : (s.grant w).arbiterLaw := by
  obtain ⟨q, hq⟩ := State.grantTo_issues (State.stands_of_winner hw)
  obtain ⟨-, hdrain, hroom⟩ := s.grantOpen_iff.1 hopen
  obtain ⟨-, -, hfair, -⟩ := hs
  have hrun : s.fairnessAfter w ≤ 8 := by
    rw [State.fairnessAfter_eq]
    split <;> omega
  have harbiter : (s.grant w).arbiter = { (s.issue w q).arbiter with fairness := s.fairnessAfter w } := by
    simp only [State.grant, hq]
  unfold State.arbiterLaw
  rw [harbiter]
  refine ⟨?_, ?_, hrun, ?_⟩ <;> simp [hdrain]
  omega

/-- R126: RECORD_RESET voids entries of the issue list, and no other command touches the arbiter. -/
theorem CommandEffect.arbiterLaw {n : BitVec 8} {s u : State} (h : CommandEffect n s u) (hs : s.arbiterLaw) :
    u.arbiterLaw := by
  cases h with
  | recordReset =>
    refine State.arbiterLaw_congr ?_ (State.arbiterLaw_voidWalkers hs)
    simp [State.resetRecording]
  | _ => exact State.arbiterLaw_congr (by simp) hs

theorem State.arbiterLaw_deliver {s : State} (hs : s.arbiterLaw) (code : BitVec 8) (p : Privilege) (c : Option Command) :
    (s.deliver code p c).arbiterLaw := by
  refine s.deliver_keeps code p c (fun r => ?_) (fun n u _ h => ?_)
  · exact State.arbiterLaw_congr (by simp) hs
  · exact h.arbiterLaw hs

theorem State.arbiterLaw_completePass {s : State} (hs : s.arbiterLaw) (q : QueueEntry) (ans : MemResponse) :
    (s.completePass q ans).arbiterLaw := by
  apply State.completePass_keeps q ans
  · exact State.arbiterLaw_congr rfl (State.arbiterLaw_popIssued hs)
  · exact fun u k hu => State.arbiterLaw_congr (by simp) hu
  · exact fun u r hu => State.arbiterLaw_congr (by simp) hu
  · exact fun u hu => State.arbiterLaw_congr (by simp) hu
  · exact fun u hu => State.arbiterLaw_congr (by simp) hu
  · exact fun u width wc hu => State.arbiterLaw_congr (by simp) hu
  · intro u wc hu
    exact State.commandUnit_keeps wc (State.arbiterLaw_congr (by simp) hu) fun v code p c hv => State.arbiterLaw_deliver hv ..

theorem EventEffect.arbiterLaw {s u : State} (h : EventEffect s u) (hs : s.arbiterLaw) : u.arbiterLaw := by
  cases h with
  | grant w hw hopen => exact State.arbiterLaw_grant hs hw hopen
  | completePass e q ans _ => exact State.arbiterLaw_completePass hs q ans
  | deliver code p c => exact State.arbiterLaw_deliver hs ..
  | drained hdrain =>
    obtain ⟨hissued, hdrained, hfair, hapart⟩ := hs
    exact ⟨hissued, (Nat.sub_le _ _).trans hdrained, hfair, fun _ => hapart hdrain⟩
  | takeFetch | takeBurst | takeStatus | reportCompleted | statsCompleted | policyRead | discarded =>
    exact State.arbiterLaw_congr (by simp) (State.arbiterLaw_popIssued hs)
  | _ => exact State.arbiterLaw_congr (by simp) hs

/-- R38: with nothing issued beside a drain, RESET owes the drain at most 8 answers. -/
theorem State.arbiterLaw_assertReset {s : State} (hs : s.arbiterLaw) (a : BitVec 4) (m : StartMode) :
    (s.assertReset a m).arbiterLaw := by
  obtain ⟨hissued, hdrain, -, hapart⟩ := hs
  refine ⟨by simp [State.assertReset, State.resetValues], ?_, by simp [State.assertReset, State.resetValues], fun _ => rfl⟩
  change s.arbiter.drain + s.arbiter.issued.length ≤ 8
  obtain hnone | hsome := Nat.eq_zero_or_pos s.arbiter.drain
  · omega
  · simp only [hapart hsome, List.length_nil]
    omega

/-- Settles O54: by the induction over a step. -/
theorem everyStepKeepsTheArbiterLaw : Obligations.EveryStepKeepsTheArbiterLaw := by
  intro s t hs hstep
  refine step_keeps (P := State.arbiterLaw) ?_ ?_ ?_ ?_ ?_ hs hstep
  · exact fun u rest hu => hu
  · exact fun u a m hu => State.arbiterLaw_assertReset hu a m
  · exact fun u a m hu => hu
  · exact fun u v hu h => h.arbiterLaw hu
  · exact fun u hu => State.arbiterLaw_congr (by simp) hu

end Sys2Proof.Machine
end

section
/-! SUPPORT. The transaction queue (R27, R29, R30): the order of its entries, kept by the four operations that touch it: a
request enters at the tail, the oldest UNSENT entry is sent, the oldest AT_MEMORY entry is answered, and the head leaves. -/

namespace Sys2Proof.Machine

/-! ## The first entry of a state -/

/-- An update of the first member that satisfies p: there is none, or one stands at a place behind others that do not. -/
theorem updateFirst_cases {α : Type} (p : α → Bool) (f : α → α) (xs : List α) :
    updateFirst p f xs = xs ∨ ∃ before x after, xs = before ++ x :: after ∧ (∀ y ∈ before, p y = false) ∧ p x = true ∧
      updateFirst p f xs = before ++ f x :: after := by
  cases hfind : xs.find? p with
  | none => exact .inl (updateFirst_none p f xs (by simpa using hfind))
  | some x =>
    obtain ⟨hx, before, after, hsplit, hbefore⟩ := List.find?_eq_some_iff_append.1 hfind
    have hnot : ∀ y ∈ before, p y = false := by simpa using hbefore
    exact .inr ⟨before, x, after, hsplit, hnot, hx, by rw [hsplit, updateFirst_split p f before after x hnot hx]⟩

theorem QueueEntry.isUnsent_iff (e : QueueEntry) : e.isUnsent = true ↔ e.state = .unsent := decide_eq_true_iff

theorem QueueEntry.isUnsent_eq_false_iff (e : QueueEntry) : e.isUnsent = false ↔ e.state ≠ .unsent := decide_eq_false_iff_not

theorem QueueEntry.isAtMemory_iff (e : QueueEntry) : e.isAtMemory = true ↔ e.state = .atMemory := decide_eq_true_iff

theorem QueueEntry.isAtMemory_eq_false_iff (e : QueueEntry) : e.isAtMemory = false ↔ e.state ≠ .atMemory :=
  decide_eq_false_iff_not

/-! ## The law of the queue but for its head -/

/-- R29: an entry's state fits its outcome, and a response is stored where it is to be delivered. -/
def QueueEntry.fits (e : QueueEntry) : Prop :=
  (e.state = .denied → e.passed = false) ∧
    (e.state = .unsent ∨ e.state = .atMemory ∨ e.state = .held → e.passed = true) ∧
    (e.passed = true → e.state = .held ∨ e.state = .delivering → e.response.isSome = true)

/-- R27, R29, R30: the law of the queue, but for the head's own clause, which `promoteHead` brings about. -/
def QueueOrdered (q : List QueueEntry) : Prop :=
  q.length ≤ 4 ∧ (∀ e ∈ q, e.fits) ∧ (∀ e ∈ q.tail, e.state ≠ .delivering) ∧
    (q.filter QueueEntry.passed).Pairwise (fun a b => a.state.stage ≤ b.state.stage)

/-- The law of the queue is its order and the head's clause (R29). -/
theorem State.queueLaw_iff (s : State) :
    s.queueLaw ↔ QueueOrdered s.queue ∧ ∀ e ∈ s.queue.head?, e.state ≠ .denied ∧ e.state ≠ .held := by
  constructor
  · rintro ⟨hlength, hfits, hhead, htail, horder⟩
    exact ⟨⟨hlength, hfits, htail, horder⟩, hhead⟩
  · rintro ⟨⟨hlength, hfits, htail, horder⟩, hhead⟩
    exact ⟨hlength, hfits, hhead, htail, horder⟩

theorem State.queueLaw_congr {s t : State} (h : t.queue = s.queue) (hs : s.queueLaw) : t.queueLaw := by
  unfold State.queueLaw
  rw [h]
  exact hs

/-- R29: an ordered queue whose head is promoted meets the law. -/
theorem State.queueLaw_of_promoteHead {s : State} {q : List QueueEntry} (h : s.queue = promoteHead q)
    (hq : QueueOrdered q) : s.queueLaw := by
  rw [State.queueLaw_iff, h]
  cases q with
  | nil => exact ⟨hq, by simp⟩
  | cons e es =>
    by_cases hstate : e.state = .denied ∨ e.state = .held
    · obtain ⟨hlength, hfits, htail, horder⟩ := hq
      have hfit : e.fits := hfits e (by simp)
      rw [promoteHead_cons, if_pos hstate]
      refine ⟨⟨by simpa using hlength, ?_, by simpa using htail, ?_⟩, by simp⟩
      · intro x hx
        obtain rfl | hx := List.mem_cons.1 hx
        · refine ⟨by simp, by simp, fun hpass _ => hfit.2.2 hpass ?_⟩
          obtain hdenied | hheld := hstate
          · have : e.passed = true := hpass
            simp [hfit.1 hdenied] at this
          · exact .inl hheld
        · exact hfits x (by simp [hx])
      · rw [List.filter_cons] at horder ⊢
        change List.Pairwise _ (if e.passed = true then _ else _)
        split
        case isTrue hpass =>
          rw [if_pos hpass] at horder
          exact List.Pairwise.cons (fun x _ => Nat.zero_le _) horder.of_cons
        case isFalse hpass =>
          rw [if_neg hpass] at horder
          exact horder
    · rw [promoteHead_of_head _ (by simpa [not_or] using hstate)]
      exact ⟨hq, by simpa [not_or] using hstate⟩

/-- An entry that passed is not DENIED, so its stage is at most UNSENT's. -/
theorem QueueEntry.fits.stage_le {e : QueueEntry} (h : e.fits) (hpass : e.passed = true) : e.state.stage ≤ 3 := by
  cases hstate : e.state with
  | denied => simp [h.1 hstate] at hpass
  | _ => simp [TxState.stage]

/-- R28: a request enters an ordered queue of fewer than 4 at its tail. -/
theorem QueueOrdered.append {q : List QueueEntry} (hq : QueueOrdered q) (hroom : q.length < 4) {e : QueueEntry}
    (hstate : e.state = e.decision.verdict.entryState) : QueueOrdered (q ++ [e]) := by
  obtain ⟨-, hfits, htail, horder⟩ := hq
  have hentry : e.fits ∧ e.state ≠ .delivering ∧ (e.passed = true → e.state = .unsent) := by
    unfold QueueEntry.fits QueueEntry.passed
    cases hverdict : e.decision.verdict <;> simp [hstate, hverdict, Verdict.entryState]
  obtain ⟨hfit, hwaits, hunsent⟩ := hentry
  refine ⟨by simp; omega, ?_, ?_, ?_⟩
  · intro x hx
    obtain hx | hx := List.mem_append.1 hx
    · exact hfits x hx
    · rwa [List.mem_singleton.1 hx]
  · intro x hx
    cases q with
    | nil => simp at hx
    | cons y ys =>
      obtain hx | hx := List.mem_append.1 hx
      · exact htail x hx
      · rwa [List.mem_singleton.1 hx]
  · rw [List.filter_append, List.pairwise_append]
    refine ⟨horder, List.Pairwise.filter _ (List.pairwise_singleton _ _), fun x hx y hy => ?_⟩
    obtain ⟨hx, hxpass⟩ := List.mem_filter.1 hx
    obtain ⟨hy, hypass⟩ := List.mem_filter.1 hy
    rw [List.mem_singleton.1 hy] at hypass ⊢
    rw [hunsent hypass]
    exact (hfits x hx).stage_le hxpass

/-- The head leaves an ordered queue. -/
theorem QueueOrdered.tail {q : List QueueEntry} (hq : QueueOrdered q) : QueueOrdered q.tail := by
  obtain ⟨hlength, hfits, htail, horder⟩ := hq
  refine ⟨?_, fun e he => hfits e (List.mem_of_mem_tail he), fun e he => htail e (List.mem_of_mem_tail he), ?_⟩
  · rw [List.length_tail]
    omega
  · exact horder.sublist ((List.tail_sublist q).filter _)

/-- A passed entry of an ordered queue may go on by a stage, where no passed entry before it has still to do so (R30, R31). -/
theorem QueueOrdered.advance {before after : List QueueEntry} {e e' : QueueEntry}
    (hq : QueueOrdered (before ++ e :: after)) (hfit : e'.fits) (hstate : e'.state ≠ .delivering)
    (hpass : e'.passed = e.passed) (hnext : e'.state.stage ≤ e.state.stage)
    (hbefore : ∀ x ∈ before, x.passed = true → x.state.stage ≤ e.state.stage → x.state.stage ≤ e'.state.stage) :
    QueueOrdered (before ++ e' :: after) := by
  obtain ⟨hlength, hfits, htail, horder⟩ := hq
  refine ⟨by simpa using hlength, ?_, ?_, ?_⟩
  · intro x hx
    obtain hx | hx := List.mem_append.1 hx
    · exact hfits x (List.mem_append_left _ hx)
    · obtain rfl | hx := List.mem_cons.1 hx
      · exact hfit
      · exact hfits x (by simp [hx])
  · intro x hx
    cases before with
    | nil => exact htail x hx
    | cons y ys =>
      obtain hx | hx := List.mem_append.1 hx
      · exact htail x (List.mem_append_left _ hx)
      · obtain rfl | hx := List.mem_cons.1 hx
        · exact hstate
        · exact htail x (by simp [hx])
  · rw [List.filter_append, List.filter_cons, List.pairwise_append] at horder ⊢
    rw [hpass]
    cases he : e.passed
    · simpa [he] using horder
    · simp only [he, if_true, List.pairwise_cons] at horder ⊢
      obtain ⟨hfront, ⟨hafter, hrest⟩, hcross⟩ := horder
      refine ⟨hfront, ⟨fun x hx => hnext.trans (hafter x hx), hrest⟩, fun x hx y hy => ?_⟩
      obtain rfl | hy := List.mem_cons.1 hy
      · obtain ⟨hxq, hxpass⟩ := List.mem_filter.1 hx
        exact hbefore x hxq hxpass (hcross x hx e (by simp))
      · exact hcross x hx y (by simp [hy])

/-! ## The operations of the queue -/

theorem State.queueLaw_enqueue {s : State} (hs : s.queueLaw) (hroom : s.queue.length < 4) (r : Request)
    (d : DecisionRecord) : (s.enqueue r d).queueLaw :=
  State.queueLaw_of_promoteHead rfl (((s.queueLaw_iff).1 hs).1.append hroom rfl)

theorem State.queueLaw_endDelivery {s : State} (hs : s.queueLaw) : s.endDelivery.queueLaw :=
  State.queueLaw_of_promoteHead s.endDelivery_queue ((s.queueLaw_iff).1 hs).1.tail

/-- R30: the oldest UNSENT entry becomes AT_MEMORY; the head is left neither DENIED nor HELD. -/
theorem State.queueLaw_grantPass {s : State} (hs : s.queueLaw) : s.grantPass.queueLaw := by
  unfold State.grantPass
  split
  · obtain hsame | ⟨before, e, after, hqueue, hbefore, he, hupdate⟩ := updateFirst_cases QueueEntry.isUnsent
      (fun e => { e with state := .atMemory }) s.queue
    · exact State.queueLaw_congr hsame hs
    · rw [State.queueLaw_iff] at hs ⊢
      simp only [State.issue_queue, hupdate]
      rw [hqueue] at hs
      obtain ⟨horder, hhead⟩ := hs
      rw [QueueEntry.isUnsent_iff] at he
      have hpass : e.passed = true := (horder.2.1 e (by simp)).2.1 (.inl he)
      refine ⟨horder.advance ⟨by simp, fun _ => hpass, by simp⟩ (by simp) rfl (by simp [he, TxState.stage]) ?_, ?_⟩
      · intro x hx hxpass hstage
        have hunsent : x.state ≠ .unsent := x.isUnsent_eq_false_iff.1 (hbefore x hx)
        cases hx : x.state <;> simp_all [TxState.stage]
      · cases before with
        | nil => simp
        | cons y ys => simpa using hhead
  · exact hs

/-- R31: the oldest AT_MEMORY entry takes its response and becomes HELD, or delivers as the head. -/
theorem State.queueLaw_storeResponse {s : State} (hs : s.queueLaw) (ans : MemResponse) :
    (s.storeResponse ans).queueLaw := by
  refine State.queueLaw_of_promoteHead (s.storeResponse_queue ans) ?_
  have horder := ((s.queueLaw_iff).1 hs).1
  obtain hsame | ⟨before, e, after, hqueue, hbefore, he, hupdate⟩ := updateFirst_cases QueueEntry.isAtMemory
    (fun e => { e with state := .held, response := some (storedResponse e.request.kind ans) }) s.queue
  · rwa [hsame]
  · rw [hupdate]
    rw [hqueue] at horder
    rw [QueueEntry.isAtMemory_iff] at he
    have hpass : e.passed = true := (horder.2.1 e (by simp)).2.1 (.inr (.inl he))
    refine horder.advance ⟨by simp, fun _ => hpass, by simp⟩ (by simp) rfl (by simp [he, TxState.stage]) ?_
    intro x hx hxpass hstage
    have hwaits : x.state ≠ .atMemory := x.isAtMemory_eq_false_iff.1 (hbefore x hx)
    cases hx : x.state <;> simp_all [TxState.stage]

theorem EventEffect.queueLaw {s u : State} (h : EventEffect s u) (hs : s.queueLaw) : u.queueLaw := by
  cases h with
  | takeRequest r _ hopen =>
    have hroom : s.queue.length < 4 := by
      simp only [State.portOpen, Bool.and_eq_true, decide_eq_true_eq] at hopen
      exact hopen.2
    exact State.queueLaw_congr (by simp) (State.queueLaw_enqueue hs hroom r (s.decisionRecord r))
  | grant w _ _ =>
    by_cases hw : w = .pass
    · exact State.queueLaw_congr (by simp [State.queue_grant, hw]) (State.queueLaw_grantPass hs)
    · exact State.queueLaw_congr (by simp [State.queue_grant, hw]) hs
  | completePass e q ans _ => exact State.queueLaw_congr (by simp) (State.queueLaw_storeResponse hs ans)
  | endDelivery _ => exact State.queueLaw_endDelivery hs
  | _ => exact State.queueLaw_congr (by simp) hs

/-- Settles O51: by the induction over a step. -/
theorem everyStepKeepsTheQueueLaw : Obligations.EveryStepKeepsTheQueueLaw := by
  intro s t hs hstep
  refine step_keeps (P := State.queueLaw) ?_ ?_ ?_ ?_ ?_ hs hstep
  · exact fun u rest hu => hu
  · exact fun u a m _ => by simp [State.assertReset, State.resetValues, State.queueLaw]
  · exact fun u a m hu => hu
  · exact fun u v hu h => h.queueLaw hu
  · exact fun u hu => State.queueLaw_congr (settle_queue u) hu

end Sys2Proof.Machine
end

section
/-! SUPPORT. The pending list (R65, R66): it holds one entry for each linked transaction that memory has not completed. A
decision adds to both, a memory completion takes from both, and nothing else changes either's length. -/

namespace Sys2Proof.Machine

/-! ## Transactions that name a pending entry -/

/-- A linked transaction that memory has not completed (R65). -/
def QueueEntry.awaits (e : QueueEntry) : Bool :=
  e.captureLink && (decide (e.state = .unsent) || decide (e.state = .atMemory))

/-- How many transactions of a queue name a pending entry (R65). -/
def awaiting (q : List QueueEntry) : Nat := q.countP QueueEntry.awaits

theorem State.pendingLaw_iff (s : State) : s.pendingLaw ↔ s.capture.pendingList.length = awaiting s.queue := by
  unfold State.pendingLaw awaiting
  rw [List.countP_eq_length_filter]
  exact Iff.rfl

theorem State.pendingLaw_congr {s t : State} (hqueue : t.queue = s.queue)
    (hpending : t.capture.pendingList.length = s.capture.pendingList.length) (hs : s.pendingLaw) : t.pendingLaw := by
  rw [State.pendingLaw_iff] at hs ⊢
  rw [hqueue, hpending, hs]

/-- A promoted head names no pending entry before or after (R29). -/
@[simp] theorem awaiting_promoteHead (q : List QueueEntry) : awaiting (promoteHead q) = awaiting q := by
  cases q with
  | nil => rfl
  | cons e es =>
    rw [promoteHead_cons]
    unfold awaiting
    simp only [List.countP_cons]
    congr 1
    by_cases hstate : e.state = .denied ∨ e.state = .held
    · obtain h | h := hstate <;> simp [QueueEntry.awaits, h]
    · simp only [if_neg hstate]

theorem awaiting_append (p q : List QueueEntry) : awaiting (p ++ q) = awaiting p + awaiting q := List.countP_append

/-- R30: a transaction that is sent still waits for memory. -/
theorem awaiting_send (q : List QueueEntry) :
    awaiting (updateFirst QueueEntry.isUnsent (fun e => { e with state := .atMemory }) q) = awaiting q := by
  obtain hsame | ⟨before, e, after, rfl, -, he, hupdate⟩ := updateFirst_cases QueueEntry.isUnsent
    (fun e => { e with state := .atMemory }) q
  · rw [hsame]
  · rw [hupdate]
    rw [QueueEntry.isUnsent_iff] at he
    simp [awaiting, List.countP_cons, QueueEntry.awaits, he]

/-- R31: an answered transaction that was linked names no pending entry any more. -/
theorem awaiting_answer {queue : List QueueEntry} {e : QueueEntry} (h : queue.find? QueueEntry.isAtMemory = some e)
    (ans : MemResponse) :
    awaiting queue = awaiting (updateFirst QueueEntry.isAtMemory
      (fun e => { e with state := .held, response := some (storedResponse e.request.kind ans) }) queue) +
        e.captureLink.toNat := by
  obtain ⟨he, before, after, rfl, hbefore⟩ := List.find?_eq_some_iff_append.1 h
  rw [updateFirst_split _ _ _ _ _ (by simpa using hbefore) he]
  rw [QueueEntry.isAtMemory_iff] at he
  cases hlink : e.captureLink <;> simp [awaiting, QueueEntry.awaits, he, hlink]
  omega

/-! ## The length of the pending list -/

theorem CaptureUnit.pendingList_countGroupLost (c : CaptureUnit) (number : BitVec 8) :
    (c.countGroupLost number).pendingList = c.pendingList := by
  rw [CaptureUnit.countGroupLost_eq]

@[simp] theorem State.pendingList_closeGroup (s : State) (reason : GroupReason) :
    (s.closeGroup reason).capture.pendingList = s.capture.pendingList := by
  cases h : s.capture.openGroup with
  | none => rw [State.closeGroup_of_none h]
  | some g => rw [State.capture_closeGroup h]; rfl

theorem State.pendingList_captureAccess (s : State) (r : Request) (d : DecisionRecord) (e : Eligibility) (k : Nat) :
    (s.captureAccess r d e k).capture.pendingList = s.capture.pendingList ++ [s.capture.pendingEntry r d e k] := by
  obtain ⟨b, h⟩ := s.captureAccess_eq r d e k
  rw [h]
  split <;> simp [CaptureUnit.capturing]

@[simp] theorem State.pendingList_fireOnEntry (s : State) (k : Nat) :
    (s.fireOnEntry k).capture.pendingList = s.capture.pendingList := by
  obtain h | ⟨-, h⟩ := s.capture_fireOnEntry k <;> rw [h]

@[simp] theorem State.pendingList_tickQuiet (s : State) : s.tickQuiet.capture.pendingList = s.capture.pendingList := by
  unfold State.tickQuiet
  split
  · rfl
  · split <;> simp

@[simp] theorem State.pendingList_advance (s : State) : s.advance.capture.pendingList = s.capture.pendingList := by
  simp [State.advance]

theorem State.pendingList_takeDenial (i : DenialInfo) (d : DenialTerms) (s : State) :
    (s.takeDenial i d).capture.pendingList = s.capture.pendingList := by
  have hfire (u : State) : u.fireOnDenial.capture.pendingList = u.capture.pendingList := by
    rw [State.capture_fireOnDenial]
    split <;> rfl
  unfold State.takeDenial inFreeOrder inOrder
  dsimp only
  split
  · split <;> simp [hfire]
  · simp [hfire]

/-- R60, R65: an eligible access adds a pending entry exactly where it is captured in its decision event. -/
theorem State.length_pendingList_takeEligible (s : State) (r : Request) (d : DecisionRecord) (e : Eligibility) (k : Nat) :
    (s.takeEligible r d e k).capture.pendingList.length =
      s.capture.pendingList.length + ((s.fireOnEntry k).capturesNow k).toNat := by
  unfold State.takeEligible
  obtain ⟨hnow, -, h⟩ | ⟨hnow, -, -, h⟩ | ⟨hnow, -, -, h⟩ := (s.fireOnEntry k).consider_cases r d e k
  all_goals rw [h, hnow]
  · simp
  · simp [State.pendingList_captureAccess]
  · simp [State.capture_countSkip]

/-- R61: the capture unit decides on the state that the queue entry was made from. -/
theorem State.capturesNow_fireOnEntry_congr {s t : State} (hcapture : t.capture = s.capture) (hpolicy : t.policy = s.policy)
    (k : Nat) : (t.fireOnEntry k).capturesNow k = (s.fireOnEntry k).capturesNow k := by
  simp [State.capturesNow, State.counter, State.capture_fireOnEntry_congr hcapture, hpolicy]

/-- R60, R61: the decision adds a pending entry exactly where it gives a capture link. -/
theorem State.length_pendingList_takeRequest (s : State) (r : Request) :
    (s.takeRequest r).capture.pendingList.length =
      s.capture.pendingList.length + (s.capturesDecision (s.decisionRecord r)).toNat := by
  unfold State.takeRequest State.capturesDecision
  dsimp only
  cases hverdict : (s.decisionRecord r).verdict with
  | deny t => simp [State.pendingList_takeDenial]
  | pass x =>
    cases x with
    | none => simp
    | some e =>
      cases hentry : (s.decisionRecord r).entry with
      | none => simp
      | some k =>
        dsimp only
        rw [State.length_pendingList_takeEligible, State.capturesNow_fireOnEntry_congr (s := s) (by simp) (by simp)]
        simp

/-- No command changes the length of the pending list: RECORD_RESET voids its entries (R75). -/
theorem CommandEffect.length_pendingList {n : BitVec 8} {s u : State} (h : CommandEffect n s u) :
    u.capture.pendingList.length = s.capture.pendingList.length := by
  cases h with
  | captureStart t _ => simp [State.startCapture]
  | stopNow _ =>
    unfold State.stopNow
    split <;> simp
  | stopAtGroupEnd _ =>
    unfold State.stopAtGroupEnd
    split <;> simp
  | recordReset => simp [State.resetRecording, State.resetCapture, CaptureUnit.recordReset]
  | _ => simp

@[simp] theorem State.length_pendingList_deliver (s : State) (code : BitVec 8) (p : Privilege) (c : Option Command) :
    (s.deliver code p c).capture.pendingList.length = s.capture.pendingList.length := by
  refine s.deliver_keeps code p c (P := fun u => u.capture.pendingList.length = s.capture.pendingList.length)
    (fun r => ?_) (fun n u _ h => ?_)
  · simp
  · exact h.length_pendingList

@[simp] theorem State.length_pendingList_commandUnit (s : State) (wc : WriteCompletion) :
    (s.commandUnit wc).capture.pendingList.length = s.capture.pendingList.length := by
  unfold State.commandUnit
  split <;> simp [deliverCode]

@[simp] theorem State.pendingList_takeCaptured (ans : MemResponse) (s : State) :
    (s.takeCaptured ans).capture.pendingList = s.capture.pendingList.tail := by
  obtain h | ⟨number, h⟩ := s.capture_takeCaptured ans
  · rw [h]
  · rw [h, CaptureUnit.pendingList_countGroupLost]

/-- R66: the first of the capture unit's two steps takes the head of the pending list, the second none. -/
@[simp] theorem length_pendingList_captureStep (ans : MemResponse) (link : Bool) (k : Nat) (s : State) :
    (captureStep ans link k s).capture.pendingList.length =
      s.capture.pendingList.length - (link && decide (k = 0)).toNat := by
  unfold captureStep
  cases link
  · simp
  · by_cases hk : k = 0 <;> simp [hk]

/-- In any order the capture unit's first step is taken once (R31). -/
theorem State.length_pendingList_offerWrite (s : State) (o : CompletionOrder) (width : Nat) (wc : WriteCompletion)
    (ans : MemResponse) (link : Bool) :
    (s.offerWrite o width wc ans link).capture.pendingList.length = s.capture.pendingList.length - link.toNat := by
  unfold State.offerWrite
  by_cases h1 : 1 ≤ o.captureSteps <;> by_cases h2 : 2 ≤ o.captureSteps <;> cases o.walkersFirst <;> simp [h1, h2]

/-- R66: a completion takes one pending entry from the list exactly where the transaction was linked. -/
theorem State.length_pendingList_completePass (s : State) (q : QueueEntry) (ans : MemResponse) :
    (s.completePass q ans).capture.pendingList.length = s.capture.pendingList.length - q.captureLink.toNat := by
  simp only [State.completePass, State.completionEffects]
  split
  · simp [State.memoryFault]
  · simp only [State.completeWrite]
    split <;> simp [State.length_pendingList_offerWrite]
  · simp
  · simp

/-! ## The law -/

theorem State.pendingLaw_takeRequest {s : State} (hs : s.pendingLaw) (r : Request) : (s.takeRequest r).pendingLaw := by
  rw [State.pendingLaw_iff] at hs ⊢
  simp only [State.length_pendingList_takeRequest, State.takeRequest_frame, State.enqueue, awaiting_promoteHead,
    awaiting_append, hs]
  congr 1
  unfold State.capturesDecision
  cases (s.decisionRecord r).verdict with
  | deny t => simp [awaiting, QueueEntry.awaits]
  | pass x => simp [awaiting, QueueEntry.awaits, Verdict.entryState, List.countP_cons, Bool.toNat]

theorem State.pendingLaw_completePass {s : State} (hs : s.pendingLaw) {e : IssueEntry} {q : QueueEntry} (ans : MemResponse)
    (h : s.passAnswering = some (e, q)) : (s.completePass q ans).pendingLaw := by
  have hfind : s.queue.find? QueueEntry.isAtMemory = some q := by
    unfold State.passAnswering at h
    split at h
    · split at h
      · simp only [Option.map_eq_some_iff, Prod.mk.injEq, exists_eq_right_right] at h
        exact h.1
      · cases h
    · cases h
  rw [State.pendingLaw_iff] at hs ⊢
  simp only [State.length_pendingList_completePass, State.completePass_frame, State.storeResponse_queue,
    awaiting_promoteHead]
  have := awaiting_answer hfind ans
  omega

/-- R32: a head that delivers names no pending entry. -/
theorem State.pendingLaw_endDelivery {s : State} (hs : s.pendingLaw) (h : s.headDelivers = true) :
    s.endDelivery.pendingLaw := by
  rw [State.pendingLaw_iff] at hs ⊢
  simp only [State.endDelivery_capture, State.endDelivery_queue, awaiting_promoteHead, hs]
  unfold State.headDelivers at h
  split at h
  next e rest hqueue =>
    rw [decide_eq_true_eq] at h
    simp [hqueue, awaiting, QueueEntry.awaits, h]
  · cases h

theorem State.pendingLaw_grant {s : State} (hs : s.pendingLaw) (w : Requester) : (s.grant w).pendingLaw := by
  rw [State.pendingLaw_iff] at hs ⊢
  have hcapture : (s.grant w).capture = s.capture := by cases w <;> simp [State.grant, State.grantTo]
  rw [hcapture, hs, State.queue_grant]
  split
  · unfold State.grantPass
    split
    · exact (awaiting_send s.queue).symm
    · rfl
  · rfl

theorem EventEffect.pendingLaw {s u : State} (h : EventEffect s u) (hs : s.pendingLaw) : u.pendingLaw := by
  cases h with
  | takeRequest r _ _ => exact State.pendingLaw_takeRequest hs r
  | grant w _ _ => exact State.pendingLaw_grant hs w
  | completePass e q ans h => exact State.pendingLaw_completePass hs ans h
  | endDelivery h => exact State.pendingLaw_endDelivery hs h
  | _ => exact State.pendingLaw_congr (by simp) (by simp) hs

/-- Settles O52: by the induction over a step. -/
theorem everyStepKeepsThePendingListLinked : Obligations.EveryStepKeepsThePendingListLinked := by
  intro s t hs hstep
  refine step_keeps (P := State.pendingLaw) ?_ ?_ ?_ ?_ ?_ hs hstep
  · exact fun u rest hu => hu
  · exact fun u a m _ => by simp [State.assertReset, State.resetValues, State.pendingLaw]
  · exact fun u a m hu => hu
  · exact fun u v hu h => h.pendingLaw hu
  · exact fun u hu => State.pendingLaw_congr (settle_queue u) (by simp) hu

end Sys2Proof.Machine
end

section
/-! SUPPORT. The FIFOs and the lost counts (R77, R80, R83): each stream stays within its capacity through an offer and through
a count of lost records, and every operation moves the streams by these two, by taking records off and by emptying them. -/

namespace Sys2Proof.Machine

/-! ## One stream -/

/-- R77, R83: a stream within its capacity, with its lost count within 65535. -/
def RecordStream.within (x : RecordStream) (i : StreamId) : Prop :=
  (match i with
    | .event => x.fifo.length ≤ 32
    | .capture => fifoWords x.fifo ≤ 1024) ∧ x.lost ≤ 65535

/-- The law of the streams is the bound of each. -/
theorem State.streamLaw_iff (s : State) : s.streamLaw ↔ ∀ i, (s.stream i).within i := by
  constructor
  · rintro ⟨hevent, hcapture, heventLost, hcaptureLost⟩ (_ | _)
    · exact ⟨hevent, heventLost⟩
    · exact ⟨hcapture, hcaptureLost⟩
  · intro h
    exact ⟨(h .event).1, (h .capture).1, (h .event).2, (h .capture).2⟩

theorem RecordStream.within_afterOffer {x : RecordStream} {i : StreamId} (h : x.within i) (tick : Word) (r : Record) :
    (x.afterOffer i tick r).within i := by
  cases i
  · exact x.afterOffer_event_bounds tick r h.1
  · exact x.afterOffer_capture_bounds tick r h.1

theorem RecordStream.within_afterLosing {x : RecordStream} {i : StreamId} (h : x.within i) (k : Nat) :
    (x.afterLosing k).within i := by
  unfold RecordStream.afterLosing
  split
  · exact h
  · exact ⟨h.1, Nat.min_le_left _ _⟩

theorem fifoWords_drop_le (fifo : List Record) (k : Nat) : fifoWords (fifo.drop k) ≤ fifoWords fifo := by
  have h : fifoWords (fifo.take k) + fifoWords (fifo.drop k) = fifoWords fifo := by
    rw [← fifoWords_append, List.take_append_drop]
  omega

theorem RecordStream.within_drop {x : RecordStream} {i : StreamId} (h : x.within i) (k : Nat) :
    RecordStream.within { x with fifo := x.fifo.drop k } i := by
  refine ⟨?_, h.2⟩
  cases i
  · exact (List.drop_sublist k x.fifo).length_le.trans h.1
  · exact (fifoWords_drop_le ..).trans h.1

theorem RecordStream.within_empty {x : RecordStream} {i : StreamId} (h : x.within i) :
    RecordStream.within { x with fifo := [] } i := by
  refine ⟨?_, h.2⟩
  cases i <;> simp

theorem RecordStream.within_reset (i : StreamId) : RecordStream.reset.within i := by
  cases i <;> simp [RecordStream.reset, RecordStream.within]

/-! ## Both streams -/

theorem State.streamLaw_congr {s t : State} (hevent : t.eventStream = s.eventStream)
    (hcapture : t.captureStream = s.captureStream) (hs : s.streamLaw) : t.streamLaw := by
  unfold State.streamLaw
  rw [hevent, hcapture]
  exact hs

theorem State.streamLaw_setStream {s : State} (hs : s.streamLaw) {i : StreamId} {x : RecordStream} (hx : x.within i) :
    (s.setStream i x).streamLaw := by
  rw [State.streamLaw_iff] at hs ⊢
  intro j
  rw [State.stream_setStream]
  split
  next h => rwa [h]
  · exact hs j

theorem State.streamLaw_offer {s : State} (hs : s.streamLaw) (i : StreamId) (r : Record) : (s.offer i r).streamLaw := by
  rw [State.streamLaw_iff] at hs ⊢
  intro j
  by_cases h : j = i
  · rw [h, State.stream_offer_self]
    exact RecordStream.within_afterOffer (hs i) ..
  · rw [State.stream_offer_other s r h]
    exact hs j

theorem State.streamLaw_countLost {s : State} (hs : s.streamLaw) (i : StreamId) (k : Nat) : (s.countLost i k).streamLaw := by
  rw [State.streamLaw_iff] at hs ⊢
  intro j
  by_cases h : j = i
  · rw [h, State.stream_countLost_self]
    exact RecordStream.within_afterLosing (hs i) k
  · rw [State.stream_countLost, if_neg (fun hj => h hj.1)]
    exact hs j

/-! ## Denials and the capture unit -/

theorem State.streamLaw_changeCapture {s : State} (hs : s.streamLaw) (c : CaptureState) : (s.changeCapture c).streamLaw := by
  unfold State.changeCapture
  split
  · exact hs
  · exact State.streamLaw_offer (State.streamLaw_congr (by simp) (by simp) hs) ..

theorem State.streamLaw_offerDue (gs : List ClosedGroup) {s : State} (hs : s.streamLaw) : (s.offerDue gs).streamLaw := by
  induction gs generalizing s with
  | nil => exact hs
  | cons g gs ih =>
    unfold State.offerDue
    split
    · exact hs
    · exact ih (State.streamLaw_offer (s := s.setCapture { s.capture with owed := gs }) hs ..)

theorem State.streamLaw_endDueGroups {s : State} (hs : s.streamLaw) : s.endDueGroups.streamLaw :=
  State.streamLaw_offerDue _ hs

theorem State.streamLaw_closeGroup {s : State} (hs : s.streamLaw) (reason : GroupReason) :
    (s.closeGroup reason).streamLaw := by
  cases h : s.capture.openGroup with
  | none => rwa [State.closeGroup_of_none h]
  | some g =>
    rw [State.closeGroup_of_some h]
    refine State.streamLaw_changeCapture (State.streamLaw_endDueGroups ?_) _
    exact hs

theorem State.streamLaw_captureAccess {s : State} (hs : s.streamLaw) (r : Request) (d : DecisionRecord) (e : Eligibility)
    (k : Nat) : (s.captureAccess r d e k).streamLaw := by
  obtain ⟨b, h⟩ := s.captureAccess_eq r d e k
  have hentered : ((s.setCapture (s.capture.capturing (s.capture.pendingEntry r d e k))).markDirtyIf b .capture).streamLaw :=
    State.streamLaw_congr (by simp) (by simp) hs
  rw [h]
  split
  · exact State.streamLaw_closeGroup hentered _
  · exact hentered

theorem State.streamLaw_fireOnEntry {s : State} (hs : s.streamLaw) (k : Nat) : (s.fireOnEntry k).streamLaw := by
  unfold State.fireOnEntry
  split
  · exact State.streamLaw_changeCapture hs _
  · exact hs

theorem State.streamLaw_fireOnDenial {s : State} (hs : s.streamLaw) : s.fireOnDenial.streamLaw := by
  unfold State.fireOnDenial
  split
  · exact State.streamLaw_changeCapture hs _
  · exact hs

theorem State.streamLaw_takeEligible {s : State} (hs : s.streamLaw) (r : Request) (d : DecisionRecord) (e : Eligibility)
    (k : Nat) : (s.takeEligible r d e k).streamLaw := by
  have hfired := State.streamLaw_fireOnEntry hs k
  unfold State.takeEligible
  obtain ⟨-, -, h⟩ | ⟨-, -, -, h⟩ | ⟨-, -, -, h⟩ := (s.fireOnEntry k).consider_cases r d e k
  all_goals rw [h]
  · exact hfired
  · exact State.streamLaw_captureAccess (s := (s.fireOnEntry k).setCounter k e.factor) hfired ..
  · exact State.streamLaw_congr (by simp) (by simp) hfired

theorem State.streamLaw_reportDenial {s : State} (hs : s.streamLaw) (i : DenialInfo) (d : DenialTerms) :
    (s.reportDenial i d).streamLaw := by
  unfold State.reportDenial
  split
  · exact State.streamLaw_offer hs ..
  · exact hs

theorem State.streamLaw_takeDenial {s : State} (hs : s.streamLaw) (i : DenialInfo) (d : DenialTerms) :
    (s.takeDenial i d).streamLaw := by
  have haccount : (s.accountDenial i).streamLaw := State.streamLaw_congr (by simp) (by simp) hs
  have hdrawn : ((s.accountDenial i).drawn 1).streamLaw := haccount
  unfold State.takeDenial inFreeOrder inOrder
  dsimp only
  split
  · split
    · exact State.streamLaw_reportDenial (State.streamLaw_fireOnDenial hdrawn) ..
    · exact State.streamLaw_fireOnDenial (State.streamLaw_reportDenial hdrawn ..)
  · exact State.streamLaw_fireOnDenial (State.streamLaw_reportDenial haccount ..)

theorem State.streamLaw_takeRequest {s : State} (hs : s.streamLaw) (r : Request) : (s.takeRequest r).streamLaw := by
  have hentered : (s.enqueue r (s.decisionRecord r)).streamLaw := hs
  unfold State.takeRequest
  dsimp only
  split
  · exact State.streamLaw_takeDenial hentered ..
  · exact State.streamLaw_takeEligible hentered ..
  · exact hentered
  · exact hentered

theorem State.streamLaw_takeCaptured {s : State} (hs : s.streamLaw) (ans : MemResponse) : (s.takeCaptured ans).streamLaw := by
  unfold State.takeCaptured
  split
  · exact hs
  · dsimp only
    split
    · exact hs
    · split
      all_goals
        refine State.streamLaw_offer ?_ ..
        exact hs

theorem State.streamLaw_tickQuiet {s : State} (hs : s.streamLaw) : s.tickQuiet.streamLaw := by
  unfold State.tickQuiet
  split
  · exact hs
  next n _ =>
    split
    · exact State.streamLaw_closeGroup (s := s.setCapture { s.capture with quietTimer := none }) hs _
    · exact hs

theorem State.streamLaw_advance {s : State} (hs : s.streamLaw) : s.advance.streamLaw :=
  State.streamLaw_tickQuiet (State.streamLaw_congr (by simp) (by simp) hs)

/-! ## Walkers -/

theorem State.streamLaw_enterFaulted {s : State} (hs : s.streamLaw) (i : StreamId) (c : FaultCause) :
    (s.enterFaulted i c).streamLaw := by
  have hmoved : ((s.moveWalker i
      { s.walker i with state := .faulted, copy := none, closeReason := none, inFlight := none }).raise
        .chainFault).streamLaw := State.streamLaw_congr (by simp) (by simp) hs
  exact State.streamLaw_congr (by simp [State.enterFaulted]) (by simp [State.enterFaulted])
    (State.streamLaw_offer hmoved .event (.chainFault i c (s.walker i).current s.time.tick))

/-- R114: the FIFO of a completed abort is discarded and counted lost. -/
theorem State.streamLaw_completeAbort {s : State} (hs : s.streamLaw) (i : StreamId) : (s.completeAbort i).streamLaw := by
  have hempty := State.streamLaw_setStream hs (RecordStream.within_empty ((s.streamLaw_iff).1 hs i))
  exact State.streamLaw_congr (by simp [State.completeAbort]) (by simp [State.completeAbort])
    (State.streamLaw_countLost hempty i (s.stream i).fifo.length)

theorem State.streamLaw_abortFilled {s : State} (hs : s.streamLaw) (i : StreamId) : (s.abortFilled i).streamLaw := by
  unfold State.abortFilled
  dsimp only
  split
  · exact State.streamLaw_congr (by simp) (by simp) hs
  · exact State.streamLaw_completeAbort hs i

theorem State.streamLaw_abortWalker {s : State} (hs : s.streamLaw) (i : StreamId) : (s.abortWalker i).streamLaw := by
  have hset (w : Walker) : (s.setWalker i w).streamLaw := State.streamLaw_congr (by simp) (by simp) hs
  have hmoved (v w : Walker) : ((s.setWalker i v).moveWalker i w).streamLaw := State.streamLaw_congr (by simp) (by simp) hs
  unfold State.abortWalker
  dsimp only
  split
  · exact State.streamLaw_completeAbort (hset _) i
  · exact State.streamLaw_completeAbort (hset _) i
  · exact State.streamLaw_completeAbort (hset _) i
  · exact State.streamLaw_completeAbort (hset _) i
  · split
    · exact hmoved ..
    · exact State.streamLaw_completeAbort (hset _) i
  · split
    · exact hmoved ..
    · exact State.streamLaw_abortFilled (hset _) i
  · exact hmoved ..
  · exact hset _

theorem State.streamLaw_takeFetch {s : State} (hs : s.streamLaw) (i : StreamId) (ans : MemResponse) :
    (s.takeFetch i ans).streamLaw := by
  unfold State.takeFetch State.judgeDescriptor
  split
  · exact State.streamLaw_completeAbort hs i
  · split
    · exact State.streamLaw_enterFaulted hs ..
    · dsimp only
      split
      · exact State.streamLaw_enterFaulted hs ..
      · split <;> exact State.streamLaw_congr (by simp) (by simp) hs

theorem State.streamLaw_takeBurst {s : State} (hs : s.streamLaw) (i : StreamId) (rs : List Record) (code : RespCode) :
    (s.takeBurst i rs code).streamLaw := by
  have hlost := State.streamLaw_countLost hs i rs.length
  cases code with
  | okay =>
    have hset : (s.setWalker i ((s.walker i).afterBurst rs)).streamLaw := State.streamLaw_congr (by simp) (by simp) hs
    simp only [State.takeBurst]
    split
    · exact State.streamLaw_abortFilled hset i
    · exact hset
  | error =>
    simp only [State.takeBurst]
    split
    · exact State.streamLaw_abortFilled (State.streamLaw_congr (by simp) (by simp) hlost) i
    · exact State.streamLaw_enterFaulted hlost ..

theorem State.streamLaw_takeStatus {s : State} (hs : s.streamLaw) (i : StreamId) (code : RespCode) :
    (s.takeStatus i code).streamLaw := by
  have hset (w : Walker) : (s.setWalker i w).streamLaw := State.streamLaw_congr (by simp) (by simp) hs
  unfold State.takeStatus
  dsimp only
  split
  · cases code with
    | okay => exact State.streamLaw_completeAbort (State.streamLaw_congr (by simp) (by simp) hs) i
    | error => exact State.streamLaw_completeAbort (State.streamLaw_congr (by simp) (by simp) hs) i
  · split
    · cases code with
      | error => exact State.streamLaw_enterFaulted (hset _) ..
      | okay =>
        simp only [State.closeCompleted]
        split <;> exact State.streamLaw_congr (by simp) (by simp) hs
    · exact hset _

/-- R84, R100: a burst takes its records off the FIFO. -/
theorem State.streamLaw_grantWalker {s : State} (hs : s.streamLaw) (i : StreamId) : (s.grantWalker i).streamLaw := by
  unfold State.grantWalker
  dsimp only
  split
  · exact State.streamLaw_congr (by simp) (by simp) hs
  · split
    · refine State.streamLaw_congr ?_ ?_
        (State.streamLaw_setStream hs (RecordStream.within_drop ((s.streamLaw_iff).1 hs i) (s.burstRecords i).length))
      all_goals simp [State.grantBurst]
    · exact State.streamLaw_congr (by simp) (by simp) hs

theorem State.streamLaw_grant {s : State} (hs : s.streamLaw) (w : Requester) : (s.grant w).streamLaw := by
  cases w with
  | event => exact State.streamLaw_grantWalker hs .event
  | capture => exact State.streamLaw_grantWalker hs .capture
  | pass => exact State.streamLaw_congr (by simp [State.grant, State.grantTo]) (by simp [State.grant, State.grantTo]) hs
  | report => exact State.streamLaw_congr (by simp [State.grant, State.grantTo]) (by simp [State.grant, State.grantTo]) hs
  | command => exact State.streamLaw_congr (by simp [State.grant, State.grantTo]) (by simp [State.grant, State.grantTo]) hs

/-! ## Commands and completions -/

theorem State.streamLaw_startCapture {s : State} (hs : s.streamLaw) (x : TriggerSettings) : (s.startCapture x).streamLaw :=
  State.streamLaw_changeCapture (State.streamLaw_congr (by simp) (by simp) hs) _

theorem State.streamLaw_stopNow {s : State} (hs : s.streamLaw) : s.stopNow.streamLaw := by
  unfold State.stopNow
  split
  · exact State.streamLaw_closeGroup hs _
  · exact State.streamLaw_changeCapture hs _

theorem State.streamLaw_stopAtGroupEnd {s : State} (hs : s.streamLaw) : s.stopAtGroupEnd.streamLaw := by
  unfold State.stopAtGroupEnd
  split <;> exact State.streamLaw_changeCapture hs _

/-- R154: COMMIT offers one record. -/
theorem State.streamLaw_commitPolicy {s : State} (hs : s.streamLaw) (p : Policy) : (s.commitPolicy p).streamLaw := by
  unfold State.commitPolicy
  refine State.streamLaw_offer ?_ ..
  exact hs

/-- R92: both streams are empty after RECORD_RESET. -/
theorem State.stream_resetRecording (s : State) (i : StreamId) : s.resetRecording.stream i = RecordStream.reset := by
  cases i <;> simp [State.resetRecording, State.resetStream, State.resetWalker, State.stream]

theorem CommandEffect.streamLaw {n : BitVec 8} {s u : State} (h : CommandEffect n s u) (hs : s.streamLaw) :
    u.streamLaw := by
  cases h with
  | commit p _ => exact State.streamLaw_congr (by simp) (by simp) (State.streamLaw_commitPolicy hs p)
  | abort i => exact State.streamLaw_abortWalker (s := s.startRunning .setChain n (some i)) hs i
  | captureStart x _ => exact State.streamLaw_congr (by simp) (by simp) (State.streamLaw_startCapture hs x)
  | stopNow _ => exact State.streamLaw_congr (by simp) (by simp) (State.streamLaw_stopNow hs)
  | stopAtGroupEnd _ => exact State.streamLaw_congr (by simp) (by simp) (State.streamLaw_stopAtGroupEnd hs)
  | mark i r => exact State.streamLaw_congr (by simp) (by simp) (State.streamLaw_offer hs i r)
  | recordReset =>
    refine State.streamLaw_congr (s := s.resetRecording) (by simp) (by simp) ((State.streamLaw_iff _).2 fun i => ?_)
    rw [State.stream_resetRecording]
    exact RecordStream.within_reset i
  | _ => exact State.streamLaw_congr (by simp) (by simp) hs

theorem State.streamLaw_deliver {s : State} (hs : s.streamLaw) (code : BitVec 8) (p : Privilege) (c : Option Command) :
    (s.deliver code p c).streamLaw := by
  refine s.deliver_keeps code p c (fun r => ?_) (fun n u _ h => ?_)
  · exact State.streamLaw_congr (by simp) (by simp) hs
  · exact h.streamLaw hs

theorem State.streamLaw_completePass {s : State} (hs : s.streamLaw) (q : QueueEntry) (ans : MemResponse) :
    (s.completePass q ans).streamLaw := by
  apply State.completePass_keeps q ans
  · exact State.streamLaw_congr (by simp) (by simp) hs
  · exact fun u k hu => hu
  · exact fun u r hu => State.streamLaw_offer (State.streamLaw_congr (by simp) (by simp) hu) ..
  · exact fun u hu => State.streamLaw_takeCaptured hu ans
  · exact fun u hu => State.streamLaw_endDueGroups hu
  · exact fun u width wc hu => State.streamLaw_congr (by simp) (by simp) hu
  · intro u wc hu
    exact State.commandUnit_keeps wc (State.streamLaw_congr (by simp) (by simp) hu)
      fun v code p c hv => State.streamLaw_deliver hv ..

theorem EventEffect.streamLaw {s u : State} (h : EventEffect s u) (hs : s.streamLaw) : u.streamLaw := by
  cases h with
  | takeRequest r _ _ => exact State.streamLaw_takeRequest hs r
  | grant w _ _ => exact State.streamLaw_grant hs w
  | completePass e q ans _ => exact State.streamLaw_completePass hs q ans
  | takeFetch e i ans _ => exact State.streamLaw_takeFetch (s := s.popIssued) hs i ans
  | takeBurst e i rs code _ => exact State.streamLaw_takeBurst (s := s.popIssued) hs i rs code
  | takeStatus e i code _ => exact State.streamLaw_takeStatus (s := s.popIssued) hs i code
  | advance _ => exact State.streamLaw_advance hs
  | deliver code p c => exact State.streamLaw_deliver hs ..
  | _ => exact State.streamLaw_congr (by simp) (by simp) hs

/-- Settles O53: by the induction over a step. -/
theorem everyStepKeepsTheFifosWithinCapacity : Obligations.EveryStepKeepsTheFifosWithinCapacity := by
  intro s t hs hstep
  refine step_keeps (P := State.streamLaw) ?_ ?_ ?_ ?_ ?_ hs hstep
  · exact fun u rest hu => hu
  · exact fun u a m _ => by simp [State.assertReset, State.resetValues, State.streamLaw, RecordStream.reset]
  · exact fun u a m hu => hu
  · exact fun u v hu h => h.streamLaw hu
  · exact fun u hu => State.streamLaw_congr (by simp) (by simp) hu

end Sys2Proof.Machine
end

section
/-! SUPPORT. What the walkers' operations leave of the command unit: a completion handed back ends the running command and
sets the result word (R135, R140); the argument shadow, the count, the loader and the statistics engine stay. -/

namespace Sys2Proof.Machine

@[simp] theorem State.setResult_command_frame (s : State) (c : BitVec 8) (r : Result) (f : Nat) (n : BitVec 8) :
    (s.setResult c r f n).command.running = s.command.running ∧ (s.setResult c r f n).command.shadow = s.command.shadow ∧
    (s.setResult c r f n).command.count = s.command.count ∧ (s.setResult c r f n).command.stats = s.command.stats ∧
    (s.setResult c r f n).command.loader = s.command.loader := by
  simp [State.setResult_eq]

@[simp] theorem State.answer_command_frame (s : State) (c : Command) (r : Result) (n : BitVec 8) :
    (s.answer c r n).command.running = s.command.running ∧ (s.answer c r n).command.shadow = s.command.shadow ∧
    (s.answer c r n).command.count = s.command.count ∧ (s.answer c r n).command.stats = s.command.stats ∧
    (s.answer c r n).command.loader = s.command.loader :=
  State.setResult_command_frame ..

@[simp] theorem State.finish_command_frame (s : State) (w : Option StreamId) (r : Result) (f : Nat) :
    (s.finish w r f).command.shadow = s.command.shadow ∧ (s.finish w r f).command.count = s.command.count ∧
    (s.finish w r f).command.stats = s.command.stats ∧ (s.finish w r f).command.loader = s.command.loader := by
  unfold State.finish
  split
  · split <;> simp
  · simp

@[simp] theorem State.endFlush_command_frame (s : State) (i : StreamId) (r : Result) :
    (s.endFlush i r).command.shadow = s.command.shadow ∧ (s.endFlush i r).command.count = s.command.count ∧
    (s.endFlush i r).command.stats = s.command.stats ∧ (s.endFlush i r).command.loader = s.command.loader := by
  simp [State.endFlush]

@[simp] theorem State.cutFlush_command_frame (s : State) (i : StreamId) (r : Result) :
    (s.cutFlush i r).command.shadow = s.command.shadow ∧ (s.cutFlush i r).command.count = s.command.count ∧
    (s.cutFlush i r).command.stats = s.command.stats ∧ (s.cutFlush i r).command.loader = s.command.loader := by
  unfold State.cutFlush
  split <;> simp

@[simp] theorem State.settleWalker_command_frame (s : State) (i : StreamId) :
    (s.settleWalker i).command.shadow = s.command.shadow ∧ (s.settleWalker i).command.count = s.command.count ∧
    (s.settleWalker i).command.stats = s.command.stats ∧ (s.settleWalker i).command.loader = s.command.loader := by
  unfold State.settleWalker State.settleFlush
  dsimp only
  split <;> split <;> simp

@[simp] theorem State.settle_command_frame (s : State) :
    s.settle.command.shadow = s.command.shadow ∧ s.settle.command.count = s.command.count ∧
    s.settle.command.stats = s.command.stats ∧ s.settle.command.loader = s.command.loader := by
  simp [State.settle]

@[simp] theorem State.enterFaulted_command_frame (s : State) (i : StreamId) (c : FaultCause) :
    (s.enterFaulted i c).command.shadow = s.command.shadow ∧ (s.enterFaulted i c).command.count = s.command.count ∧
    (s.enterFaulted i c).command.stats = s.command.stats ∧
    (s.enterFaulted i c).command.loader = s.command.loader := by
  simp [State.enterFaulted]

@[simp] theorem State.completeAbort_command_frame (s : State) (i : StreamId) :
    (s.completeAbort i).command.shadow = s.command.shadow ∧ (s.completeAbort i).command.count = s.command.count ∧
    (s.completeAbort i).command.stats = s.command.stats ∧ (s.completeAbort i).command.loader = s.command.loader := by
  simp [State.completeAbort]

@[simp] theorem State.abortFilled_command_frame (s : State) (i : StreamId) :
    (s.abortFilled i).command.shadow = s.command.shadow ∧ (s.abortFilled i).command.count = s.command.count ∧
    (s.abortFilled i).command.stats = s.command.stats ∧ (s.abortFilled i).command.loader = s.command.loader := by
  unfold State.abortFilled
  dsimp only
  split <;> simp

@[simp] theorem State.abortWalker_command_frame (s : State) (i : StreamId) :
    (s.abortWalker i).command.shadow = s.command.shadow ∧ (s.abortWalker i).command.count = s.command.count ∧
    (s.abortWalker i).command.stats = s.command.stats ∧ (s.abortWalker i).command.loader = s.command.loader := by
  unfold State.abortWalker
  dsimp only
  split
  case h_5 | h_6 => split <;> simp
  all_goals simp

@[simp] theorem State.takeFetch_command_frame (s : State) (i : StreamId) (ans : MemResponse) :
    (s.takeFetch i ans).command.shadow = s.command.shadow ∧ (s.takeFetch i ans).command.count = s.command.count ∧
    (s.takeFetch i ans).command.stats = s.command.stats ∧ (s.takeFetch i ans).command.loader = s.command.loader := by
  unfold State.takeFetch State.judgeDescriptor
  split
  · simp
  · split
    · simp
    · dsimp only
      split
      · simp
      · split <;> simp [State.enterWaiting]

@[simp] theorem State.takeBurst_command_frame (s : State) (i : StreamId) (rs : List Record) (code : RespCode) :
    (s.takeBurst i rs code).command.shadow = s.command.shadow ∧
    (s.takeBurst i rs code).command.count = s.command.count ∧
    (s.takeBurst i rs code).command.stats = s.command.stats ∧
    (s.takeBurst i rs code).command.loader = s.command.loader := by
  cases code
  all_goals
    simp only [State.takeBurst]
    split <;> simp

@[simp] theorem State.flushAtClose_command_frame (s : State) (i : StreamId) (ended : Bool) :
    (s.flushAtClose i ended).command.shadow = s.command.shadow ∧
    (s.flushAtClose i ended).command.count = s.command.count ∧
    (s.flushAtClose i ended).command.stats = s.command.stats ∧
    (s.flushAtClose i ended).command.loader = s.command.loader := by
  unfold State.flushAtClose
  split
  · simp
  · split <;> simp
  · simp

@[simp] theorem State.takeStatus_command_frame (s : State) (i : StreamId) (code : RespCode) :
    (s.takeStatus i code).command.shadow = s.command.shadow ∧ (s.takeStatus i code).command.count = s.command.count ∧
    (s.takeStatus i code).command.stats = s.command.stats ∧ (s.takeStatus i code).command.loader = s.command.loader := by
  unfold State.takeStatus
  dsimp only
  split
  · cases code <;> simp [State.abortCloseCompleted]
  · split
    · cases code
      · simp only [State.closeCompleted]
        split <;> simp
      · simp [State.closeCompleted]
    · simp

/-- The argument beats of a completion change the shadow alone (R131). -/
@[simp] theorem State.takeArguments_command_frame (s : State) (wc : WriteCompletion) :
    (s.takeArguments wc).command.running = s.command.running ∧ (s.takeArguments wc).command.count = s.command.count ∧
    (s.takeArguments wc).command.result = s.command.result ∧ (s.takeArguments wc).command.stats = s.command.stats ∧
    (s.takeArguments wc).command.loader = s.command.loader := by
  unfold State.takeArguments
  split <;> simp

end Sys2Proof.Machine
end

section
/-! SUPPORT. The policy tables and their counters (R9, R22, R23): a table becomes active or VALID only from a reset policy or
from an image whose checks passed, and a counter takes its value from an entry of the active table. -/

namespace Sys2Proof.Machine

/-! ## What the two laws read -/

theorem State.tableLaw_congr {s t : State} (hactive : t.policy.active = s.policy.active)
    (hstaged : t.policy.staged = s.policy.staged) (hloader : t.command.loader = s.command.loader) (hs : s.tableLaw) :
    t.tableLaw := by
  unfold State.tableLaw
  rw [hactive, hstaged, hloader]
  exact hs

theorem State.counterLaw_congr {s t : State} (hdecimation : t.policy.decimation = s.policy.decimation)
    (hslots : t.policy.slotCounts = s.policy.slotCounts) (hdefault : t.denial.defaultCount = s.denial.defaultCount)
    (hs : s.counterLaw) : t.counterLaw := by
  unfold State.counterLaw
  rw [hdecimation, hslots, hdefault]
  exact hs

/-- R9 with R22 and R23, as a step keeps them: a decimation counter restarts from the active table. -/
def State.policyLaw (s : State) : Prop := s.tableLaw ∧ s.counterLaw

theorem State.policyLaw_congr {s t : State} (hpolicy : t.policy = s.policy) (hdenial : t.denial = s.denial)
    (hloader : t.command.loader = s.command.loader) (hs : s.policyLaw) : t.policyLaw := by
  obtain ⟨htable, hcounter⟩ := hs
  exact ⟨State.tableLaw_congr (by rw [hpolicy]) (by rw [hpolicy]) hloader htable,
    State.counterLaw_congr (by rw [hpolicy]) (by rw [hpolicy]) (by rw [hdenial]) hcounter⟩

/-! ## Counters -/

/-- A vector whose members are bounded stays bounded when one of them is replaced by a bounded value. -/
theorem forall_mem_setIfInBounds {α : Type} {n : Nat} {P : α → Prop} {v : Vector α n} (hv : ∀ x ∈ v.toList, P x) (k : Nat)
    {a : α} (ha : P a) : ∀ x ∈ (v.setIfInBounds k a).toList, P x := by
  intro x hx
  rw [Vector.mem_toList_iff, Vector.mem_iff_getElem] at hx
  obtain ⟨j, hj, rfl⟩ := hx
  rw [Vector.getElem_setIfInBounds]
  split
  · exact ha
  · exact hv _ (by simp)

theorem State.counterLaw_setCounter {s : State} (hs : s.counterLaw) (k : Nat) {n : Nat} (hn : 1 ≤ n ∧ n ≤ 256) :
    (s.setCounter k n).counterLaw := by
  obtain ⟨hdecimation, hslots, hdefault⟩ := hs
  exact ⟨forall_mem_setIfInBounds hdecimation k hn, hslots, hdefault⟩

/-- R22: a counter's value, a missing one read as 1, is at most 256. -/
theorem State.counter_le {s : State} (hs : s.counterLaw) (k : Nat) : s.counter k ≤ 256 := by
  unfold State.counter
  cases h : s.policy.decimation[k]? with
  | none => simp
  | some n => exact (hs.1 n (Vector.mem_toList_iff.2 (Vector.mem_of_getElem? h))).2

/-- R23, R47: one count goes up and stops at 65535. -/
theorem State.counterLaw_countDenial {s : State} (hs : s.counterLaw) (k : DenialKind) (entry : Option Nat) :
    (s.countDenial k entry).counterLaw := by
  have hstops (n : Nat) : countUp n ≤ 65535 := Nat.min_le_left _ _
  obtain ⟨hdecimation, hslots, hdefault⟩ := hs
  unfold State.countDenial
  split
  · exact ⟨hdecimation, forall_mem_setIfInBounds hslots _ (hstops _), hdefault⟩
  · exact ⟨hdecimation, hslots, hstops _⟩

theorem State.counterLaw_resetCounters {s : State} (hs : s.counterLaw) : s.resetCounters.counterLaw :=
  ⟨by simp [Vector.toList_replicate], hs.2⟩

theorem State.counterLaw_clearCounts {s : State} (hs : s.counterLaw) : s.clearCounts.counterLaw :=
  ⟨hs.1, by simp [Vector.toList_replicate], Nat.zero_le _⟩

/-! ## Decisions -/

/-- R21: what a request is eligible for comes from an entry of the table. -/
theorem judge_eligibility {p : Policy} {buffers : List DescriptorCopy} {r : Request} {x : Eligibility}
    (h : (p.judge buffers r).1 = .pass (some x)) : ∃ e ∈ p.entries, x.factor = e.factor := by
  have hdefault : p.judgeDefault buffers r ≠ .pass (some x) := by
    unfold Policy.judgeDefault
    split
    · simp
    · split <;> simp
  unfold Policy.judge at h
  split at h
  · cases h
  split at h
  · cases h
  split at h
  · cases h
  split at h
  · split at h
    next e he =>
      refine ⟨e, List.mem_of_getElem? he, ?_⟩
      change p.judgeFound buffers r e = _ at h
      unfold Policy.judgeFound RegionEntry.eligibility at h
      split at h
      · cases h
      split at h
      · cases h
      split at h
      · cases h
      split at h <;> cases h
      rfl
    · exact absurd h hdefault
  · exact absurd h hdefault

theorem State.policyLaw_consider {s : State} (hs : s.policyLaw) (r : Request) (d : DecisionRecord) {e : Eligibility}
    (he : 1 ≤ e.factor ∧ e.factor ≤ 256) (k : Nat) : (s.consider r d e k).policyLaw := by
  obtain ⟨htable, hcounter⟩ := hs
  obtain ⟨-, -, h⟩ | ⟨-, -, -, h⟩ | ⟨-, -, hskip, h⟩ := s.consider_cases r d e k
  all_goals rw [h]
  · exact ⟨htable, hcounter⟩
  · exact State.policyLaw_congr (s := s.setCounter k e.factor) (by simp) (by simp) (by simp)
      ⟨htable, State.counterLaw_setCounter hcounter k he⟩
  · have hcount : 1 ≤ s.counter k - 1 ∧ s.counter k - 1 ≤ 256 := by
      have := State.counter_le hcounter k
      omega
    exact State.policyLaw_congr (s := s.setCounter k (s.counter k - 1)) (by simp) (by simp) (by simp)
      ⟨htable, State.counterLaw_setCounter hcounter k hcount⟩

theorem State.policyLaw_takeDenial {s : State} (hs : s.policyLaw) (i : DenialInfo) (d : DenialTerms) :
    (s.takeDenial i d).policyLaw := by
  obtain ⟨htable, hcounter⟩ := hs
  have hset : (s.setDenial (s.denial.record i)).counterLaw := by
    rw [State.setDenial_eq]
    exact hcounter
  have haccount : (s.accountDenial i).policyLaw := by
    refine ⟨State.tableLaw_congr ?_ ?_ (by simp) htable, State.counterLaw_congr ?_ ?_ ?_
      (State.counterLaw_countDenial hset i.kind i.entry)⟩
    all_goals simp [State.accountDenial, State.countDenial]
    all_goals split <;> simp
  unfold State.takeDenial inFreeOrder inOrder
  dsimp only
  split
  · split <;> exact State.policyLaw_congr (by simp) (by simp) (by simp) haccount
  · exact State.policyLaw_congr (by simp) (by simp) (by simp) haccount

/-- R20 to R22: a decision counts a denial, or takes a counter on; a restart takes an entry's factor. -/
theorem State.policyLaw_takeRequest {s : State} (hs : s.policyLaw) (r : Request) : (s.takeRequest r).policyLaw := by
  have hentered : (s.enqueue r (s.decisionRecord r)).policyLaw := hs
  unfold State.takeRequest
  dsimp only
  split
  · exact State.policyLaw_takeDenial hentered ..
  next x k hverdict _ =>
    obtain ⟨e, he, hfactor⟩ := judge_eligibility hverdict
    obtain ⟨⟨⟨⟨-, -, -, hvalid⟩, -⟩, -⟩, -⟩ := hs
    obtain ⟨-, -, hrange⟩ := hvalid e he
    refine State.policyLaw_consider (State.policyLaw_congr (by simp) (by simp) (by simp) hentered) _ _ ?_ k
    rw [hfactor]
    exact hrange
  · exact hentered
  · exact hentered

/-! ## Images (R149, R150) -/

/-- R149: a header that passes gives a valid policy with no entry. -/
theorem headerPolicy_valid {ws : List Word} (h : headerFailure ws = none) :
    (headerPolicy ws).valid ∧ (wordAt ws 1).toNat ≤ 32 := by
  unfold headerFailure at h
  split at h
  · cases h
  split at h
  · cases h
  next hcount =>
    split at h
    · cases h
    next hwidth =>
      split at h
      · cases h
      next hboundary =>
        refine ⟨⟨?_, ?_, ?_, by simp [headerPolicy]⟩, by omega⟩
        · change 16 ≤ widthField (wordAt ws 2)
          omega
        · change widthField (wordAt ws 2) ≤ 32
          omega
        · change (wordAt ws 3).toNat % 0x10000 = 0
          omega

/-- R150: an entry record that passes gives a valid entry. -/
theorem entryOf_valid {width : Nat} {ws : List Word} (h : entryFailure width ws = none) : (entryOf ws).valid width := by
  unfold entryFailure at h
  split at h
  · cases h
  next hrange =>
    split at h
    · cases h
    · split at h
      · cases h
      next hfactor =>
        refine ⟨?_, ?_, Nat.le_add_left _ _, ?_⟩
        · change (wordAt ws 0).toNat ≤ (wordAt ws 1).toNat
          omega
        · change (wordAt ws 1).toNat < 2 ^ (width - 6)
          omega
        · change decimationField (wordAt ws 5) + 1 ≤ 256
          omega

theorem Policy.valid.append {p : Policy} (hp : p.valid) {e : RegionEntry} (he : e.valid p.width) :
    Policy.valid { p with entries := p.entries ++ [e] } := by
  obtain ⟨hlow, hhigh, hboundary, hentries⟩ := hp
  refine ⟨hlow, hhigh, hboundary, fun x hx => ?_⟩
  obtain hx | hx := List.mem_append.1 hx
  · exact hentries x hx
  · rwa [List.mem_singleton.1 hx]

/-- R150: a burst whose records pass gives a valid policy. -/
theorem checkEntries_valid {records : List (List Word)} {p q : Policy} (hp : p.valid)
    (h : checkEntries p records = .inl q) : q.valid := by
  induction records generalizing p with
  | nil =>
    cases h
    exact hp
  | cons ws rest ih =>
    unfold checkEntries at h
    split at h
    · cases h
    next hpass => exact ih (hp.append (entryOf_valid hpass)) h

/-- R151: a load ends with the staged table EMPTY, or VALID with a table that passed. -/
theorem State.policyLaw_endLoad {s : State} (hs : s.policyLaw) {staged : Staged}
    (hstaged : ∀ p, staged = .valid p → p.valid ∧ p.entries.length ≤ 32) (r : Result) (f : Nat) :
    (s.endLoad staged r f).policyLaw := by
  obtain ⟨⟨hactive, -, -⟩, hcounter⟩ := hs
  exact State.policyLaw_congr (by simp [State.endLoad]) (by simp [State.endLoad]) (by simp [State.endLoad])
    (s := { s with policy := { s.policy with staged := staged }, command := { s.command with loader := none } })
    ⟨⟨hactive, hstaged, by simp⟩, hcounter⟩

/-- The loader goes on with what it has read. -/
theorem State.policyLaw_loaderGoesOn {s : State} (hs : s.policyLaw) {l : Loader}
    (hpart : ∀ part, l.part = some part → part.policy.valid ∧ part.count ≤ 32) :
    State.policyLaw { s with command := { s.command with loader := some l } } := by
  obtain ⟨⟨hactive, hstaged, -⟩, hcounter⟩ := hs
  refine ⟨⟨hactive, hstaged, fun l' part hl hp => ?_⟩, hcounter⟩
  cases hl
  exact hpart part hp

theorem State.policyLaw_policyRead {s : State} (hs : s.policyLaw) {l : Loader} (hl : s.command.loader = some l)
    (ans : MemResponse) : (s.policyRead l ans).policyLaw := by
  have hempty (r : Result) (f : Nat) : (s.endLoad .empty r f).policyLaw := State.policyLaw_endLoad hs (by simp) r f
  unfold State.policyRead
  split
  · exact hempty ..
  · split
    · unfold State.takeHeader
      split
      · exact hempty ..
      next hpass =>
        obtain ⟨hvalid, hcount⟩ := headerPolicy_valid hpass
        dsimp only
        split
        · refine State.policyLaw_endLoad hs (fun p hp => ?_) ..
          cases hp
          exact ⟨hvalid, Nat.zero_le _⟩
        · refine State.policyLaw_loaderGoesOn hs fun part hpart => ?_
          cases hpart
          exact ⟨hvalid, hcount⟩
    next part hpart =>
      obtain ⟨hread, hcount⟩ := hs.1.2.2 l part hl hpart
      unfold State.takeEntries
      split
      · exact hempty ..
      next p hp =>
        have hvalid := checkEntries_valid hread hp
        split
        next hlast =>
          refine State.policyLaw_endLoad hs (fun q hq => ?_) ..
          cases hq
          exact ⟨hvalid, hlast ▸ hcount⟩
        · refine State.policyLaw_loaderGoesOn hs fun part' hpart' => ?_
          cases hpart'
          exact ⟨hvalid, hcount⟩

/-! ## Commands -/

theorem State.policyLaw_commitPolicy {s : State} (hs : s.policyLaw) {p : Policy} (hp : s.policy.staged = .valid p) :
    (s.commitPolicy p).policyLaw := by
  obtain ⟨⟨hactive, hstaged, hloader⟩, hcounter⟩ := hs
  have hswapped : State.tableLaw { s with policy := { s.policy with active := p, staged := .valid s.policy.active } } := by
    refine ⟨hstaged p hp, fun q hq => ?_, hloader⟩
    cases hq
    exact hactive
  exact ⟨State.tableLaw_congr (by simp [State.commitPolicy]) (by simp [State.commitPolicy]) (by simp [State.commitPolicy])
      hswapped,
    State.counterLaw_congr (by simp [State.commitPolicy]) (by simp [State.commitPolicy]) (by simp [State.commitPolicy])
      (State.counterLaw_clearCounts (State.counterLaw_resetCounters hcounter))⟩

theorem CommandEffect.policyLaw {n : BitVec 8} {s u : State} (h : CommandEffect n s u) (hs : s.policyLaw) :
    u.policyLaw := by
  obtain ⟨⟨hactive, hstaged, hloader⟩, hcounter⟩ := hs
  cases h with
  | loadPolicy _ =>
    refine ⟨⟨hactive, by simp [State.loadStarted], fun l part hl hpart => ?_⟩, hcounter⟩
    cases hl
    cases hpart
  | commit p hp =>
    exact State.policyLaw_congr (by simp) (by simp) (by simp)
      (State.policyLaw_commitPolicy ⟨⟨hactive, hstaged, hloader⟩, hcounter⟩ hp)
  | discard =>
    exact State.policyLaw_congr (by simp) (by simp) (by simp) (s := s.stagedGivenUp)
      ⟨⟨hactive, by simp [State.stagedGivenUp], hloader⟩, hcounter⟩
  | captureStart x _ =>
    exact ⟨State.tableLaw_congr (by simp [State.startCapture]) (by simp [State.startCapture]) (by simp) ⟨hactive, hstaged, hloader⟩,
      State.counterLaw_congr (by simp [State.startCapture]) (by simp [State.startCapture]) (by simp)
        (State.counterLaw_resetCounters hcounter)⟩
  | clearDenials =>
    exact ⟨State.tableLaw_congr (by simp) (by simp) (by simp) ⟨hactive, hstaged, hloader⟩,
      State.counterLaw_congr (by simp) (by simp) (by simp [State.setDenial_emptied]) hcounter⟩
  | statsCleared g => exact ⟨⟨hactive, hstaged, hloader⟩, State.counterLaw_clearCounts hcounter⟩
  | _ => exact State.policyLaw_congr (by simp) (by simp) (by simp) ⟨⟨hactive, hstaged, hloader⟩, hcounter⟩

theorem State.policyLaw_deliver {s : State} (hs : s.policyLaw) (code : BitVec 8) (p : Privilege) (c : Option Command) :
    (s.deliver code p c).policyLaw := by
  refine s.deliver_keeps code p c (fun r => ?_) (fun n u _ h => ?_)
  · exact State.policyLaw_congr (by simp) (by simp) (by simp) hs
  · exact h.policyLaw hs

/-! ## The law -/

theorem State.policyLaw_completePass {s : State} (hs : s.policyLaw) (q : QueueEntry) (ans : MemResponse) :
    (s.completePass q ans).policyLaw := by
  apply State.completePass_keeps q ans
  · exact State.policyLaw_congr (by simp) (by simp) (by simp) hs
  · exact fun u k hu => hu
  · exact fun u r hu => State.policyLaw_congr (by simp) (by simp) (by simp) hu
  · exact fun u hu => State.policyLaw_congr (by simp) (by simp) (by simp) hu
  · exact fun u hu => State.policyLaw_congr (by simp) (by simp) (by simp) hu
  · exact fun u width wc hu => State.policyLaw_congr (by simp) (by simp) (by simp) hu
  · intro u wc hu
    exact State.commandUnit_keeps wc (State.policyLaw_congr (by simp) (by simp) (by simp) hu)
      fun v code p c hv => State.policyLaw_deliver hv ..

/-- R148: the loader takes its grant without a change to what it has read. -/
theorem State.policyLaw_grant {s : State} (hs : s.policyLaw) (w : Requester) : (s.grant w).policyLaw := by
  cases w with
  | command =>
    unfold State.grant State.grantTo State.grantCommand
    dsimp only
    split
    next l hl => exact State.policyLaw_loaderGoesOn hs fun part hpart => hs.1.2.2 l part hl hpart
    · split
      · exact hs
      · exact hs
  | _ =>
    exact State.policyLaw_congr (by simp [State.grant, State.grantTo]) (by simp [State.grant, State.grantTo])
      (by simp [State.grant, State.grantTo]) hs

theorem State.loader_of_loaderAnswering {s : State} {e : IssueEntry} {l : Loader} (h : s.loaderAnswering = some (e, l)) :
    s.command.loader = some l := by
  unfold State.loaderAnswering at h
  split at h
  · split at h
    · simp only [Option.map_eq_some_iff, Option.filter_eq_some_iff, Prod.mk.injEq] at h
      obtain ⟨l', ⟨hl, -⟩, -, rfl⟩ := h
      exact hl
    · cases h
  · cases h

theorem EventEffect.policyLaw {s u : State} (h : EventEffect s u) (hs : s.policyLaw) : u.policyLaw := by
  cases h with
  | takeRequest r _ _ => exact State.policyLaw_takeRequest hs r
  | grant w _ _ => exact State.policyLaw_grant hs w
  | completePass e q ans _ => exact State.policyLaw_completePass hs q ans
  | policyRead e l ans h => exact State.policyLaw_policyRead (s := s.popIssued) hs (State.loader_of_loaderAnswering (s := s) h) ans
  | deliver code p c => exact State.policyLaw_deliver hs ..
  | statsCompleted g code _ =>
    refine State.policyLaw_congr (by simp) (by simp) ?_ hs
    simp only [State.statsCompleted]
    split <;> simp
  | _ => exact State.policyLaw_congr (by simp) (by simp) (by simp) hs

/-- R8: the reset policies are valid, and the counters start in range. -/
theorem resetPolicy_valid (m : StartMode) : (resetPolicy m).valid := by simp [resetPolicy, Policy.valid]

theorem State.policyLaw_assertReset (s : State) (a : BitVec 4) (m : StartMode) : (s.assertReset a m).policyLaw := by
  refine ⟨⟨⟨resetPolicy_valid m, Nat.zero_le _⟩, ?_, ?_⟩, ?_⟩
  · simp [State.assertReset, State.resetValues]
  · simp [State.assertReset, State.resetValues]
  · simp [State.assertReset, State.resetValues, State.counterLaw, Vector.toList_replicate]

/-- Settles O55: by the induction over a step, of both laws at once. -/
theorem everyStepKeepsTheTablesValid : Obligations.EveryStepKeepsTheTablesValid := by
  intro s t htable hcounter hstep
  refine step_keeps (P := State.policyLaw) ?_ ?_ ?_ ?_ ?_ ⟨htable, hcounter⟩ hstep
  · exact fun u rest hu => hu
  · exact fun u a m _ => State.policyLaw_assertReset u a m
  · rintro u a m ⟨⟨-, hstaged, hloader⟩, hcounter⟩
    exact ⟨⟨⟨resetPolicy_valid m, Nat.zero_le _⟩, hstaged, hloader⟩, hcounter⟩
  · exact fun u v hu h => h.policyLaw hu
  · exact fun u hu => State.policyLaw_congr (by simp) (by simp) (by simp) hu

end Sys2Proof.Machine
end

section
/-! SUPPORT. The open group (R55, R62, R63, R64): the capture unit's own operations keep its state, the open group, its number
and the quiet timer together. -/

namespace Sys2Proof.Machine

/-! ## The capture unit -/

/-- The law of the groups, of the capture unit alone (`State.groupLaw_iff`). -/
def CaptureUnit.consistent (c : CaptureUnit) : Prop :=
  (c.state = .stopped ∨ c.state = .armed → c.openGroup = none) ∧ (c.state = .stopping → c.openGroup.isSome = true) ∧
    (∀ g, c.openGroup = some g → g.number = c.groupNumber) ∧ (c.openGroup = none → c.quietTimer = none)

theorem State.groupLaw_iff (s : State) : s.groupLaw ↔ s.capture.consistent := Iff.rfl

theorem State.groupLaw_congr {s t : State} (h : t.capture = s.capture) (hs : s.groupLaw) : t.groupLaw := by
  rw [State.groupLaw_iff, h]
  exact hs

/-- R64: a group that closes leaves the unit with none open, in no state that asks for one. -/
theorem CaptureUnit.consistent_closed (c : CaptureUnit) (g : OpenGroup) (reason : GroupReason) (tick : Word) :
    (c.closed g reason tick).consistent := by
  refine ⟨fun _ => rfl, fun h => ?_, by simp [CaptureUnit.closed], fun _ => rfl⟩
  change closedState c.state reason c.trigger.oneShot = .stopping at h
  unfold closedState at h
  split at h
  · cases h
  · split at h <;> cases h
  · split at h <;> cases h
  · cases h

/-- R59: a trigger moves to RUNNING, which asks for no group and forbids none. -/
theorem CaptureUnit.consistent.running {c : CaptureUnit} (hc : c.consistent) :
    CaptureUnit.consistent { c with state := .running } := by
  obtain ⟨-, -, hnumber, htimer⟩ := hc
  exact ⟨by simp, by simp, hnumber, htimer⟩

/-- R61: an access is captured only in RUNNING and STOPPING, into a group that carries the current number. -/
theorem CaptureUnit.consistent.capturing {c : CaptureUnit} (hc : c.consistent) (hstate : c.state.considers = true)
    (p : PendingEntry) : (c.capturing p).consistent := by
  obtain ⟨-, -, hnumber, -⟩ := hc
  refine ⟨fun h => ?_, fun _ => rfl, fun g hg => ?_, fun h => by cases h⟩
  · change c.state = .stopped ∨ c.state = .armed at h
    obtain h | h := h <;> simp [h, CaptureState.considers] at hstate
  · cases hg
    change c.groupForCapture.number = c.groupNumber
    unfold CaptureUnit.groupForCapture
    cases hopen : c.openGroup with
    | none => rfl
    | some g => exact hnumber g hopen

/-- A change inside the open group keeps the unit consistent. -/
theorem CaptureUnit.consistent.mapGroup {c : CaptureUnit} (hc : c.consistent) {f : OpenGroup → OpenGroup}
    (hf : ∀ g, (f g).number = g.number) : CaptureUnit.consistent { c with openGroup := c.openGroup.map f } := by
  obtain ⟨hnone, hsome, hnumber, htimer⟩ := hc
  refine ⟨fun h => by simp [hnone h], fun h => by simpa using hsome h, fun g hg => ?_, fun h => htimer (by simpa using h)⟩
  obtain ⟨g', hg', rfl⟩ := Option.map_eq_some_iff.1 hg
  exact (hf g').trans (hnumber g' hg')

theorem CaptureUnit.consistent.countGroupLost {c : CaptureUnit} (hc : c.consistent) (number : BitVec 8) :
    (c.countGroupLost number).consistent := by
  rw [CaptureUnit.countGroupLost_eq]
  exact hc.mapGroup fun g => by split <;> rfl

/-- R75: RECORD_RESET leaves STOPPED with no group open. -/
theorem CaptureUnit.consistent_recordReset (c : CaptureUnit) : c.recordReset.consistent :=
  ⟨fun _ => rfl, by simp [CaptureUnit.recordReset], by simp [CaptureUnit.recordReset], fun _ => rfl⟩

/-! ## Operations -/

theorem State.groupLaw_closeGroup {s : State} (hs : s.groupLaw) (reason : GroupReason) : (s.closeGroup reason).groupLaw := by
  cases h : s.capture.openGroup with
  | none => rwa [State.closeGroup_of_none h]
  | some g =>
    rw [State.groupLaw_iff, State.capture_closeGroup h]
    exact CaptureUnit.consistent_closed ..

theorem State.groupLaw_fireOnEntry {s : State} (hs : s.groupLaw) (k : Nat) : (s.fireOnEntry k).groupLaw := by
  obtain h | ⟨-, h⟩ := s.capture_fireOnEntry k
  · exact State.groupLaw_congr h hs
  · rw [State.groupLaw_iff, h]
    exact CaptureUnit.consistent.running hs

theorem State.groupLaw_captureAccess {s : State} (hs : s.groupLaw) (hstate : s.capture.state.considers = true) (r : Request)
    (d : DecisionRecord) (e : Eligibility) (k : Nat) : (s.captureAccess r d e k).groupLaw := by
  obtain ⟨b, h⟩ := s.captureAccess_eq r d e k
  have hentered : ((s.setCapture (s.capture.capturing (s.capture.pendingEntry r d e k))).markDirtyIf b .capture).groupLaw := by
    rw [State.groupLaw_iff]
    simpa using CaptureUnit.consistent.capturing hs hstate _
  rw [h]
  split
  · exact State.groupLaw_closeGroup hentered _
  · exact hentered

theorem State.groupLaw_takeEligible {s : State} (hs : s.groupLaw) (r : Request) (d : DecisionRecord) (e : Eligibility)
    (k : Nat) : (s.takeEligible r d e k).groupLaw := by
  have hfired := State.groupLaw_fireOnEntry hs k
  unfold State.takeEligible
  obtain ⟨-, -, h⟩ | ⟨-, hstate, -, h⟩ | ⟨-, -, -, h⟩ := (s.fireOnEntry k).consider_cases r d e k
  all_goals rw [h]
  · exact hfired
  · exact State.groupLaw_captureAccess (s := (s.fireOnEntry k).setCounter k e.factor) hfired hstate ..
  · rw [State.groupLaw_iff, State.capture_countSkip]
    exact CaptureUnit.consistent.mapGroup hfired fun _ => rfl

/-- What a denial makes of the capture unit: an armed ON_DENIAL trigger fires, and nothing else. -/
theorem State.capture_takeDenial (i : DenialInfo) (d : DenialTerms) (s : State) :
    (s.takeDenial i d).capture = if s.denialTriggers = true then { s.capture with state := .running } else s.capture := by
  have htriggers {u : State} (h : u.capture = s.capture) : u.denialTriggers = s.denialTriggers := by
    simp only [State.denialTriggers, h]
  unfold State.takeDenial inFreeOrder inOrder
  dsimp only
  split
  · split
    · simp [State.capture_fireOnDenial, htriggers]
    · simp [State.capture_fireOnDenial, htriggers]
  · simp [State.capture_fireOnDenial, htriggers]

theorem State.groupLaw_takeDenial {s : State} (hs : s.groupLaw) (i : DenialInfo) (d : DenialTerms) :
    (s.takeDenial i d).groupLaw := by
  rw [State.groupLaw_iff, State.capture_takeDenial]
  split
  · exact CaptureUnit.consistent.running hs
  · exact hs

theorem State.groupLaw_takeRequest {s : State} (hs : s.groupLaw) (r : Request) : (s.takeRequest r).groupLaw := by
  have hentered : (s.enqueue r (s.decisionRecord r)).groupLaw := hs
  unfold State.takeRequest
  dsimp only
  split
  · exact State.groupLaw_takeDenial hentered ..
  · exact State.groupLaw_takeEligible hentered ..
  · exact hentered
  · exact hentered

theorem State.groupLaw_takeCaptured {s : State} (hs : s.groupLaw) (ans : MemResponse) : (s.takeCaptured ans).groupLaw := by
  have hpopped : CaptureUnit.consistent { s.capture with pendingList := s.capture.pendingList.tail } := hs
  rw [State.groupLaw_iff]
  obtain h | ⟨number, h⟩ := s.capture_takeCaptured ans
  · rw [h]
    exact hpopped
  · rw [h]
    exact hpopped.countGroupLost number

theorem State.groupLaw_endDueGroups {s : State} (hs : s.groupLaw) : s.endDueGroups.groupLaw := by
  rw [State.groupLaw_iff, State.capture_endDueGroups]
  exact hs

/-- R63: the timer runs only while a group is open, and stops at the close that its last tick brings. -/
theorem State.groupLaw_tickQuiet {s : State} (hs : s.groupLaw) : s.tickQuiet.groupLaw := by
  have ⟨hnone, hsome, hnumber, htimer⟩ := hs
  unfold State.tickQuiet
  split
  · exact hs
  next n hrunning =>
    split
    · exact State.groupLaw_closeGroup (s := s.setCapture { s.capture with quietTimer := none })
        ⟨hnone, hsome, hnumber, fun _ => rfl⟩ _
    · refine ⟨hnone, hsome, hnumber, fun hopen => ?_⟩
      rw [htimer hopen] at hrunning
      cases hrunning

theorem State.groupLaw_advance {s : State} (hs : s.groupLaw) : s.advance.groupLaw :=
  State.groupLaw_tickQuiet (State.groupLaw_congr (by simp) hs)

/-! ## Commands -/

/-- R55: STOPPED is entered with no group open. -/
theorem State.groupLaw_changeCapture_stopped {s : State} (hs : s.groupLaw) (hopen : s.capture.openGroup = none) :
    (s.changeCapture .stopped).groupLaw := by
  obtain ⟨-, -, hnumber, htimer⟩ := hs
  rw [State.groupLaw_iff, State.capture_changeCapture]
  exact ⟨fun _ => hopen, by simp, hnumber, htimer⟩

theorem State.groupLaw_stopNow {s : State} (hs : s.groupLaw) : s.stopNow.groupLaw := by
  unfold State.stopNow
  split
  · exact State.groupLaw_closeGroup hs _
  next hopen => exact State.groupLaw_changeCapture_stopped hs (by simpa using hopen)

theorem State.groupLaw_stopAtGroupEnd {s : State} (hs : s.groupLaw)
    (hstate : s.capture.state = .armed ∨ s.capture.state = .running) : s.stopAtGroupEnd.groupLaw := by
  have ⟨hnone, _, hnumber, htimer⟩ := hs
  unfold State.stopAtGroupEnd
  split
  next h =>
    obtain ⟨-, hopen⟩ := h
    rw [State.groupLaw_iff, State.capture_changeCapture]
    exact ⟨by simp, fun _ => hopen, hnumber, htimer⟩
  next h =>
    refine State.groupLaw_changeCapture_stopped hs ?_
    obtain harmed | hrunning := hstate
    · exact hnone (.inr harmed)
    · simpa [hrunning] using h

theorem State.groupLaw_startCapture {s : State} (hs : s.groupLaw) (hstate : s.capture.state = .stopped)
    (x : TriggerSettings) : (s.startCapture x).groupLaw := by
  obtain ⟨hnone, -, hnumber, htimer⟩ := hs
  rw [State.groupLaw_iff, State.startCapture, State.capture_changeCapture]
  refine ⟨fun _ => hnone (.inl hstate), fun h => ?_, hnumber, htimer⟩
  dsimp only at h
  split at h <;> cases h

theorem CommandEffect.groupLaw {n : BitVec 8} {s u : State} (h : CommandEffect n s u) (hs : s.groupLaw) : u.groupLaw := by
  cases h with
  | captureStart x hstate => exact State.groupLaw_congr (by simp) (State.groupLaw_startCapture hs hstate x)
  | stopNow _ => exact State.groupLaw_congr (by simp) (State.groupLaw_stopNow hs)
  | stopAtGroupEnd hstate => exact State.groupLaw_congr (by simp) (State.groupLaw_stopAtGroupEnd hs hstate)
  | recordReset =>
    rw [State.groupLaw_iff]
    simpa [State.resetRecording, State.resetCapture] using s.capture.consistent_recordReset
  | _ => exact State.groupLaw_congr (by simp) hs

theorem State.groupLaw_deliver {s : State} (hs : s.groupLaw) (code : BitVec 8) (p : Privilege) (c : Option Command) :
    (s.deliver code p c).groupLaw := by
  refine s.deliver_keeps code p c (fun r => ?_) (fun n u _ h => ?_)
  · exact State.groupLaw_congr (by simp) hs
  · exact h.groupLaw hs

/-! ## The law -/

theorem State.groupLaw_completePass {s : State} (hs : s.groupLaw) (q : QueueEntry) (ans : MemResponse) :
    (s.completePass q ans).groupLaw := by
  apply State.completePass_keeps q ans
  · exact State.groupLaw_congr (by simp) hs
  · exact fun u k hu => hu
  · exact fun u r hu => State.groupLaw_congr (by simp) hu
  · exact fun u hu => State.groupLaw_takeCaptured hu ans
  · exact fun u hu => State.groupLaw_endDueGroups hu
  · exact fun u width wc hu => State.groupLaw_congr (by simp) hu
  · intro u wc hu
    exact State.commandUnit_keeps wc (State.groupLaw_congr (by simp) hu) fun v code p c hv => State.groupLaw_deliver hv ..

theorem EventEffect.groupLaw {s u : State} (h : EventEffect s u) (hs : s.groupLaw) : u.groupLaw := by
  cases h with
  | takeRequest r _ _ => exact State.groupLaw_takeRequest hs r
  | completePass e q ans _ => exact State.groupLaw_completePass hs q ans
  | advance _ => exact State.groupLaw_advance hs
  | deliver code p c => exact State.groupLaw_deliver hs ..
  | grant w _ _ => exact State.groupLaw_congr (by cases w <;> simp [State.grant, State.grantTo]) hs
  | _ => exact State.groupLaw_congr (by simp) hs

/-- Settles O57: by the induction over a step. -/
theorem everyStepKeepsTheGroupLaw : Obligations.EveryStepKeepsTheGroupLaw := by
  intro s t hs hstep
  refine step_keeps (P := State.groupLaw) ?_ ?_ ?_ ?_ ?_ hs hstep
  · exact fun u rest hu => hu
  · exact fun u a m _ => by simp [State.assertReset, State.resetValues, State.groupLaw]
  · exact fun u a m hu => hu
  · exact fun u v hu h => h.groupLaw hu
  · exact fun u hu => State.groupLaw_congr (by simp) hu

end Sys2Proof.Machine
end

section
/-! SUPPORT. The owners of the lasting commands (R119, R130, R135, R145): the loader and the statistics engine start with their
commands at an IDLE unit and end with them, and a walker ends no command but its own stream's (R140). -/

namespace Sys2Proof.Machine

/-! ## What the law reads -/

theorem State.ownerLaw_congr {s t : State} (hstaged : t.policy.staged = s.policy.staged)
    (hloader : t.command.loader = s.command.loader) (hstats : t.command.stats = s.command.stats)
    (hrunning : t.command.running = s.command.running) (hs : s.ownerLaw) : t.ownerLaw := by
  unfold State.ownerLaw
  rw [hstaged, hloader, hstats, hrunning]
  exact hs

/-- An IDLE unit has neither owner at work (R130). -/
theorem State.ownerLaw.idle {s : State} (hs : s.ownerLaw) (hidle : s.command.running = none) :
    s.command.loader = none ∧ s.policy.staged ≠ .loading ∧ s.command.stats = none := by
  obtain ⟨hloading, hload, hstats⟩ := hs
  have hnone : s.command.loader = none := by
    by_contra h
    obtain ⟨n, hn⟩ := hload (Option.isSome_iff_ne_none.2 h)
    simp [hidle] at hn
  refine ⟨hnone, fun h => ?_, ?_⟩
  · simpa [hnone] using hloading.2 h
  · by_contra h
    obtain ⟨n, hn⟩ := hstats (Option.isSome_iff_ne_none.2 h)
    simp [hidle] at hn

/-- With neither owner at work and nothing LOADING, the law asks nothing of the running command. -/
theorem State.ownerLaw_of_idle {s : State} (hloader : s.command.loader = none) (hstaged : s.policy.staged ≠ .loading)
    (hstats : s.command.stats = none) : s.ownerLaw := by
  simp [State.ownerLaw, hloader, hstaged, hstats]

/-! ## Completions handed back by a walker (R140) -/

/-- R140: a walker's completion ends only a command that records its stream, and the owners' commands record none. -/
theorem State.ownerLaw_finish {s : State} (hs : s.ownerLaw) (i : StreamId) (r : Result) (f : Nat) :
    (s.finish (some i) r f).ownerLaw := by
  unfold State.finish
  split
  next c hc =>
    split
    next hstream =>
      obtain ⟨hloading, hload, hstats⟩ := hs
      have hother (n : BitVec 8) (code : BitVec 8) :
          s.command.running ≠ some { code := code, number := n, stream := none } := by
        rw [hc]
        rintro ⟨rfl⟩
        cases hstream
      refine ⟨?_, fun h => ?_, fun h => ?_⟩
      · simpa using hloading
      · obtain ⟨n, hn⟩ := hload (by simpa using h)
        exact absurd hn (hother n _)
      · obtain ⟨n, hn⟩ := hstats (by simpa using h)
        exact absurd hn (hother n _)
    · exact hs
  · exact hs

theorem State.ownerLaw_endFlush {s : State} (hs : s.ownerLaw) (i : StreamId) (r : Result) : (s.endFlush i r).ownerLaw := by
  unfold State.endFlush
  exact State.ownerLaw_finish (State.ownerLaw_congr (by simp) (by simp) (by simp) (by simp) hs) ..

theorem State.ownerLaw_cutFlush {s : State} (hs : s.ownerLaw) (i : StreamId) (r : Result) : (s.cutFlush i r).ownerLaw := by
  unfold State.cutFlush
  split
  · exact State.ownerLaw_endFlush hs ..
  · exact hs

theorem State.ownerLaw_settleWalker {s : State} (hs : s.ownerLaw) (i : StreamId) : (s.settleWalker i).ownerLaw := by
  have hflush : (s.settleFlush i).ownerLaw := by
    unfold State.settleFlush
    split
    · exact State.ownerLaw_endFlush hs ..
    · exact hs
  unfold State.settleWalker
  dsimp only
  split <;> exact State.ownerLaw_congr (by simp) (by simp) (by simp) (by simp) hflush

theorem State.ownerLaw_settle {s : State} (hs : s.ownerLaw) : s.settle.ownerLaw :=
  State.ownerLaw_settleWalker (State.ownerLaw_settleWalker hs _) _

theorem State.ownerLaw_enterFaulted {s : State} (hs : s.ownerLaw) (i : StreamId) (c : FaultCause) :
    (s.enterFaulted i c).ownerLaw := by
  unfold State.enterFaulted
  exact State.ownerLaw_cutFlush (State.ownerLaw_congr (by simp) (by simp) (by simp) (by simp) hs) ..

theorem State.ownerLaw_completeAbort {s : State} (hs : s.ownerLaw) (i : StreamId) : (s.completeAbort i).ownerLaw := by
  unfold State.completeAbort
  exact State.ownerLaw_finish (State.ownerLaw_congr (by simp) (by simp) (by simp) (by simp) hs) ..

theorem State.ownerLaw_abortFilled {s : State} (hs : s.ownerLaw) (i : StreamId) : (s.abortFilled i).ownerLaw := by
  unfold State.abortFilled
  dsimp only
  split
  · exact State.ownerLaw_congr (by simp) (by simp) (by simp) (by simp) hs
  · exact State.ownerLaw_completeAbort hs i

theorem State.ownerLaw_abortWalker {s : State} (hs : s.ownerLaw) (i : StreamId) : (s.abortWalker i).ownerLaw := by
  have hset (w : Walker) : (s.setWalker i w).ownerLaw :=
    State.ownerLaw_congr (by simp) (by simp) (by simp) (by simp) hs
  have hmoved (v w : Walker) : ((s.setWalker i v).moveWalker i w).ownerLaw :=
    State.ownerLaw_congr (by simp) (by simp) (by simp) (by simp) hs
  unfold State.abortWalker
  dsimp only
  split
  · exact State.ownerLaw_completeAbort (hset _) i
  · exact State.ownerLaw_completeAbort (hset _) i
  · exact State.ownerLaw_completeAbort (hset _) i
  · exact State.ownerLaw_completeAbort (hset _) i
  · split
    · exact hmoved ..
    · exact State.ownerLaw_completeAbort (hset _) i
  · split
    · exact hmoved ..
    · exact State.ownerLaw_abortFilled (hset _) i
  · exact hmoved ..
  · exact hset _

theorem State.ownerLaw_takeFetch {s : State} (hs : s.ownerLaw) (i : StreamId) (ans : MemResponse) :
    (s.takeFetch i ans).ownerLaw := by
  unfold State.takeFetch State.judgeDescriptor
  split
  · exact State.ownerLaw_completeAbort hs i
  · split
    · exact State.ownerLaw_enterFaulted hs ..
    · dsimp only
      split
      · exact State.ownerLaw_enterFaulted hs ..
      · split
        · exact State.ownerLaw_congr (by simp) (by simp) (by simp) (by simp) hs
        · unfold State.enterWaiting
          exact State.ownerLaw_cutFlush (State.ownerLaw_congr (by simp) (by simp) (by simp) (by simp) hs) ..

theorem State.ownerLaw_takeBurst {s : State} (hs : s.ownerLaw) (i : StreamId) (rs : List Record) (code : RespCode) :
    (s.takeBurst i rs code).ownerLaw := by
  have hset (u : State) (w : Walker) (hu : u.ownerLaw) : (u.setWalker i w).ownerLaw :=
    State.ownerLaw_congr (by simp) (by simp) (by simp) (by simp) hu
  have hlost : (s.countLost i rs.length).ownerLaw := State.ownerLaw_congr (by simp) (by simp) (by simp) (by simp) hs
  cases code with
  | okay =>
    simp only [State.takeBurst]
    split
    · exact State.ownerLaw_abortFilled (hset _ _ hs) i
    · exact hset _ _ hs
  | error =>
    simp only [State.takeBurst]
    split
    · exact State.ownerLaw_abortFilled (hset _ _ hlost) i
    · exact State.ownerLaw_enterFaulted hlost ..

theorem State.ownerLaw_flushAtClose {s : State} (hs : s.ownerLaw) (i : StreamId) (ended : Bool) :
    (s.flushAtClose i ended).ownerLaw := by
  unfold State.flushAtClose
  split
  · exact State.ownerLaw_endFlush hs ..
  · split
    · exact State.ownerLaw_endFlush hs ..
    · exact hs
  · exact hs

theorem State.ownerLaw_takeStatus {s : State} (hs : s.ownerLaw) (i : StreamId) (code : RespCode) :
    (s.takeStatus i code).ownerLaw := by
  have hset (w : Walker) : (s.setWalker i w).ownerLaw :=
    State.ownerLaw_congr (by simp) (by simp) (by simp) (by simp) hs
  unfold State.takeStatus
  dsimp only
  split
  · cases code with
    | okay => exact State.ownerLaw_completeAbort (State.ownerLaw_congr (by simp) (by simp) (by simp) (by simp) hs) i
    | error => exact State.ownerLaw_completeAbort (State.ownerLaw_congr (by simp) (by simp) (by simp) (by simp) hs) i
  · split
    · cases code with
      | error => exact State.ownerLaw_enterFaulted (hset _) ..
      | okay =>
        simp only [State.closeCompleted]
        split
        · exact State.ownerLaw_flushAtClose (State.ownerLaw_congr (by simp) (by simp) (by simp) (by simp) hs) ..
        · exact State.ownerLaw_flushAtClose (State.ownerLaw_congr (by simp) (by simp) (by simp) (by simp) hs) ..
    · exact hset _

/-! ## The owners' own answers (R49, R151) -/

/-- R49: the second answer ends STATS with the engine; the first leaves both. -/
theorem State.ownerLaw_statsCompleted {s : State} (hs : s.ownerLaw) {g : StatsEngine} (hg : s.command.stats = some g)
    (code : RespCode) : (s.statsCompleted g code).ownerLaw := by
  have ⟨hloading, hload, hstats⟩ := hs
  obtain ⟨n, hn⟩ := hstats (by simp [hg])
  have hnone : s.command.loader = none := by
    by_contra h
    obtain ⟨m, hm⟩ := hload (Option.isSome_iff_ne_none.2 h)
    simp [hn] at hm
  have hstaged : s.policy.staged ≠ .loading := fun h => by simpa [hnone] using hloading.2 h
  unfold State.statsCompleted
  dsimp only
  split
  · exact State.ownerLaw_of_idle (by simpa using hnone) (by simpa using hstaged) (by simp)
  · exact ⟨hloading, hload, fun _ => ⟨n, hn⟩⟩

/-- R151: a load ends with the loader idle and the staged table EMPTY or VALID. -/
theorem State.ownerLaw_endLoad {s : State} (hstats : s.command.stats = none) {staged : Staged} (hstaged : staged ≠ .loading)
    (r : Result) (f : Nat) : (s.endLoad staged r f).ownerLaw :=
  State.ownerLaw_of_idle (by simp [State.endLoad]) (by simpa [State.endLoad] using hstaged)
    (by simpa [State.endLoad] using hstats)

theorem State.ownerLaw_policyRead {s : State} (hs : s.ownerLaw) {l : Loader} (hl : s.command.loader = some l)
    (ans : MemResponse) : (s.policyRead l ans).ownerLaw := by
  have ⟨hloading, hload, hstats⟩ := hs
  obtain ⟨n, hn⟩ := hload (by simp [hl])
  have hnone : s.command.stats = none := by
    by_contra h
    obtain ⟨m, hm⟩ := hstats (Option.isSome_iff_ne_none.2 h)
    simp [hn] at hm
  have hgoesOn (l' : Loader) : State.ownerLaw { s with command := { s.command with loader := some l' } } :=
    ⟨⟨fun _ => hloading.1 (by simp [hl]), fun _ => rfl⟩, fun _ => ⟨n, hn⟩, hstats⟩
  unfold State.policyRead
  split
  · exact State.ownerLaw_endLoad hnone (by simp) ..
  · split
    · unfold State.takeHeader
      split
      · exact State.ownerLaw_endLoad hnone (by simp) ..
      · dsimp only
        split
        · exact State.ownerLaw_endLoad hnone (by simp) ..
        · exact hgoesOn _
    · unfold State.takeEntries
      split
      · exact State.ownerLaw_endLoad hnone (by simp) ..
      · split
        · exact State.ownerLaw_endLoad hnone (by simp) ..
        · exact hgoesOn _

/-! ## Commands -/

/-- R135: a command is carried out by an IDLE unit, so an owner starts alone. -/
theorem CommandEffect.ownerLaw {n : BitVec 8} {s u : State} (h : CommandEffect n s u) (hs : s.ownerLaw)
    (hidle : s.command.running = none) : u.ownerLaw := by
  obtain ⟨hloader, hstaged, hstats⟩ := hs.idle hidle
  have hstays {t : State} (hl : t.command.loader = s.command.loader) (hg : t.policy.staged = s.policy.staged)
      (hx : t.command.stats = s.command.stats) : t.ownerLaw :=
    State.ownerLaw_of_idle (hl.trans hloader) (hg ▸ hstaged) (hx.trans hstats)
  cases h with
  | loadPolicy _ => exact ⟨⟨fun _ => rfl, fun _ => rfl⟩, fun _ => ⟨n, rfl⟩, by simp [State.loadStarted, hstats]⟩
  | commit p _ =>
    exact State.ownerLaw_of_idle (by simpa using hloader) (by simp [State.commitPolicy]) (by simpa using hstats)
  | discard =>
    exact State.ownerLaw_of_idle (by simpa using hloader) (by simp [State.stagedGivenUp]) (by simpa using hstats)
  | stats g | statsCleared g =>
    exact ⟨by simp [hloader, hstaged], by simp [hloader], fun _ => ⟨n, rfl⟩⟩
  | captureStart x _ => exact hstays (by simp) (by simp [State.startCapture]) (by simp)
  | recordReset => exact hstays (by simp) (by simp) (by simp)
  | _ => exact hstays (by simp) (by simp) (by simp)

theorem State.ownerLaw_deliver {s : State} (hs : s.ownerLaw) (code : BitVec 8) (p : Privilege) (c : Option Command) :
    (s.deliver code p c).ownerLaw := by
  refine s.deliver_keeps code p c (fun r => ?_) (fun n u hidle h => ?_)
  · exact State.ownerLaw_congr (by simp) (by simp) (by simp) (by simp) hs
  · exact h.ownerLaw (s := s.counted) hs hidle

/-! ## The law -/

theorem State.ownerLaw_completePass {s : State} (hs : s.ownerLaw) (q : QueueEntry) (ans : MemResponse) :
    (s.completePass q ans).ownerLaw := by
  apply State.completePass_keeps q ans
  · exact State.ownerLaw_congr (by simp) (by simp) (by simp) (by simp) hs
  · exact fun u k hu => hu
  · exact fun u r hu => State.ownerLaw_congr (by simp) (by simp) (by simp) (by simp) hu
  · exact fun u hu => State.ownerLaw_congr (by simp) (by simp) (by simp) (by simp) hu
  · exact fun u hu => State.ownerLaw_congr (by simp) (by simp) (by simp) (by simp) hu
  · exact fun u width wc hu => State.ownerLaw_congr (by simp) (by simp) (by simp) (by simp) hu
  · intro u wc hu
    exact State.commandUnit_keeps wc (State.ownerLaw_congr (by simp) (by simp) (by simp) (by simp) hu)
      fun v code p c hv => State.ownerLaw_deliver hv ..

/-- A grant to COMMAND changes the owner at work in its place. -/
theorem State.ownerLaw_grant {s : State} (hs : s.ownerLaw) (w : Requester) : (s.grant w).ownerLaw := by
  cases w with
  | command =>
    obtain ⟨hloading, hload, hstats⟩ := hs
    unfold State.grant State.grantTo State.grantCommand
    dsimp only
    split
    next l hl =>
      have hsome : s.command.loader.isSome = true := by simp [hl]
      exact ⟨⟨fun _ => hloading.1 hsome, fun _ => rfl⟩, fun _ => hload hsome, hstats⟩
    · split
      next g hg => exact ⟨hloading, hload, fun _ => hstats (by simp [hg])⟩
      · exact ⟨hloading, hload, hstats⟩
  | _ =>
    exact State.ownerLaw_congr (by simp [State.grant, State.grantTo]) (by simp [State.grant, State.grantTo])
      (by simp [State.grant, State.grantTo]) (by simp [State.grant, State.grantTo]) hs

theorem State.stats_of_statsAnswering {s : State} {g : StatsEngine} (h : s.statsAnswering = some g) :
    s.command.stats = some g := by
  unfold State.statsAnswering at h
  split at h
  · split at h
    · exact (Option.filter_eq_some_iff.1 h).1
    · cases h
  · cases h

theorem EventEffect.ownerLaw {s u : State} (h : EventEffect s u) (hs : s.ownerLaw) : u.ownerLaw := by
  have hpopped : s.popIssued.ownerLaw := hs
  cases h with
  | takeRequest r _ _ =>
    refine State.ownerLaw_congr ?_ (by simp) (by simp) (by simp) hs
    have hdenied (k : DenialKind) (entry : Option Nat) (u : State) :
        (u.countDenial k entry).policy.staged = u.policy.staged := by
      unfold State.countDenial
      split <;> rfl
    have haccount (i : DenialInfo) (d : DenialTerms) (u : State) : (u.takeDenial i d).policy.staged = u.policy.staged := by
      unfold State.takeDenial inFreeOrder inOrder
      dsimp only
      split
      · split <;> simp [State.accountDenial, hdenied]
      · simp [State.accountDenial, hdenied]
    have heligible (r : Request) (d : DecisionRecord) (e : Eligibility) (k : Nat) (u : State) :
        (u.takeEligible r d e k).policy.staged = u.policy.staged := by
      unfold State.takeEligible State.consider
      split
      · simp
      · split <;> simp
    unfold State.takeRequest
    dsimp only
    split <;> simp [haccount, heligible]
  | grant w _ _ => exact State.ownerLaw_grant hs w
  | completePass e q ans _ => exact State.ownerLaw_completePass hs q ans
  | takeFetch e i ans _ => exact State.ownerLaw_takeFetch hpopped i ans
  | takeBurst e i rs code _ => exact State.ownerLaw_takeBurst hpopped i rs code
  | takeStatus e i code _ => exact State.ownerLaw_takeStatus hpopped i code
  | statsCompleted g code h =>
    exact State.ownerLaw_statsCompleted hpopped (State.stats_of_statsAnswering (s := s) h) code
  | policyRead e l ans h => exact State.ownerLaw_policyRead hpopped (State.loader_of_loaderAnswering (s := s) h) ans
  | deliver code p c => exact State.ownerLaw_deliver hs ..
  | _ => exact State.ownerLaw_congr (by simp) (by simp) (by simp) (by simp) hs

/-- Settles O59: by the induction over a step. -/
theorem everyStepKeepsOneLastingOwner : Obligations.EveryStepKeepsOneLastingOwner := by
  intro s t hs hstep
  refine step_keeps (P := State.ownerLaw) ?_ ?_ ?_ ?_ ?_ hs hstep
  · exact fun u rest hu => hu
  · exact fun u a m _ => by simp [State.assertReset, State.resetValues, State.ownerLaw]
  · exact fun u a m hu => hu
  · exact fun u v hu h => h.ownerLaw hu
  · exact fun u hu => State.ownerLaw_settle hu

end Sys2Proof.Machine
end

section
/-! SUPPORT. The walkers and their buffers (R93, R95, R97, R100, R104): every change of a walker keeps its fill inside the
buffer of its descriptor, and a transaction in flight of the kind its state issues. -/

namespace Sys2Proof.Machine

/-! ## One walker -/

/-- With no copy, no close reason and nothing in flight the law asks only that no buffer is at work. -/
theorem Walker.bufferLaw_of_vacant {w : Walker} (hcopy : w.copy = none) (hreason : w.closeReason = none)
    (htx : w.inFlight = none) (hfilling : w.state ≠ .filling) (hclosing : w.state ≠ .closing) : w.bufferLaw := by
  simp [Walker.bufferLaw, hcopy, hreason, htx, hfilling, hclosing]

/-- The transaction in flight has answered. -/
theorem Walker.bufferLaw.answered {w : Walker} (hw : w.bufferLaw) : Walker.bufferLaw { w with inFlight := none } := by
  obtain ⟨hfill, -, hcopy, hclosing, hreason, -⟩ := hw
  exact ⟨hfill, by simp, hcopy, hclosing, hreason, by simp⟩

/-- A walker in neither CLOSING nor ABORTING has no close reason. -/
theorem Walker.bufferLaw.reason_none {w : Walker} (hw : w.bufferLaw) (hclosing : w.state ≠ .closing)
    (haborting : w.state ≠ .aborting) : w.closeReason = none := by
  obtain ⟨-, -, -, -, hreason, -⟩ := hw
  by_contra h
  obtain ⟨hstate, -⟩ := hreason (Option.isSome_iff_ne_none.2 h)
  simp [hclosing, haborting] at hstate

/-- In a state that issues nothing, nothing is in flight. -/
theorem Walker.bufferLaw.inFlight_none {w : Walker} (hw : w.bufferLaw) (hstate : ∀ tx : WalkerTx, w.state ≠ tx.issuedIn)
    (haborting : w.state ≠ .aborting) : w.inFlight = none := by
  obtain ⟨-, -, -, -, -, hissued⟩ := hw
  cases htx : w.inFlight with
  | none => rfl
  | some tx => exact absurd (hissued tx htx) (by simp [hstate tx, haborting])

/-- A chain starts, or a descriptor is fetched again, from a state that issues nothing (R96, R106). -/
theorem Walker.bufferLaw.fetching {w v : Walker} (hw : w.bufferLaw) (hstate : ∀ tx : WalkerTx, w.state ≠ tx.issuedIn)
    (haborting : w.state ≠ .aborting) (hcopy : v.copy = w.copy) (hfill : v.fillOffset = w.fillOffset ∨ v.fillOffset = 0)
    (hreason : v.closeReason = w.closeReason) (htx : v.inFlight = w.inFlight) (hfetching : v.state = .fetching) :
    v.bufferLaw := by
  have hclosing : w.state ≠ .closing := hstate .status
  have hnoReason := hreason.trans (hw.reason_none hclosing haborting)
  have hnoTx := htx.trans (hw.inFlight_none hstate haborting)
  obtain ⟨hinside, -⟩ := hw
  refine ⟨fun c hc => ?_, by simp [hnoTx], by simp [hfetching], by simp [hfetching], by simp [hnoReason], by simp [hnoTx]⟩
  obtain ⟨hmin, hmax, hmod, hle, height⟩ := hinside c (hcopy ▸ hc)
  obtain hsame | hzero := hfill
  · exact ⟨hmin, hmax, hmod, by omega, by omega⟩
  · exact ⟨hmin, hmax, hmod, by omega, by omega⟩

/-- R112: an abort closes a buffer that is not empty. -/
theorem Walker.bufferLaw.abortClosing {w : Walker} (hw : w.bufferLaw) (hcopy : w.copy.isSome = true)
    (htx : w.inFlight = none) : Walker.bufferLaw { w with state := .aborting, closeReason := some .abort } := by
  obtain ⟨hinside, -⟩ := hw
  exact ⟨hinside, by simp [htx], by simp, by simp, by simp [hcopy], by simp⟩

/-- R110: an abort waits for what is in flight. -/
theorem Walker.bufferLaw.aborting {w : Walker} (hw : w.bufferLaw) : Walker.bufferLaw { w with state := .aborting } := by
  obtain ⟨hinside, hburst, -, -, hreason, -⟩ := hw
  exact ⟨hinside, hburst, by simp, by simp, fun h => ⟨.inr rfl, (hreason h).2⟩, by simp⟩

/-- R101, R103, R108: a buffer closes with bytes in it. -/
theorem Walker.bufferLaw.closing {w : Walker} (hw : w.bufferLaw) (hrest : w.atRest = true) (hfill : 0 < w.fillOffset)
    (reason : CloseReason) : Walker.bufferLaw { w with state := .closing, closeReason := some reason } := by
  obtain ⟨hinside, -, hcopy, -, -, -⟩ := hw
  obtain ⟨hfilling, hidle⟩ : w.state = .filling ∧ w.inFlight = none := by simpa [Walker.atRest] using hrest
  have hsome := hcopy (.inl hfilling)
  exact ⟨hinside, by simp [hidle], fun _ => hsome, fun _ => ⟨rfl, hfill⟩, fun _ => ⟨.inl rfl, hsome⟩, by simp [hidle]⟩

/-- R101: the bytes of a burst count as filled. -/
theorem Walker.bufferLaw.afterBurst {w : Walker} (hw : w.bufferLaw) {rs : List Record} (htx : w.inFlight = some (.burst rs)) :
    (w.afterBurst rs).bufferLaw := by
  obtain ⟨hinside, hburst, hcopy, -, hreason, hissued⟩ := hw
  have hstate : w.state ≠ .closing := by
    intro h
    obtain h' | h' := hissued _ htx <;> rw [h] at h' <;> cases h'
  refine ⟨fun c hc => ?_, by simp [Walker.afterBurst], hcopy, fun h => absurd h hstate, hreason, by simp [Walker.afterBurst]⟩
  obtain ⟨hmin, hmax, hmod, -, height⟩ := hinside c hc
  obtain ⟨-, c', hc', hfits⟩ := hburst rs htx
  obtain rfl : c = c' := Option.some.inj (hc.symm.trans hc')
  have heven := fifoWords_even rs
  have hbytes : (w.afterBurst rs).fillOffset = w.fillOffset + 4 * fifoWords rs := rfl
  exact ⟨hmin, hmax, hmod, by omega, by omega⟩

/-- R112: an answered burst leaves the copy it was written under. -/
theorem Walker.bufferLaw.copy_of_burst {w : Walker} (hw : w.bufferLaw) {rs : List Record}
    (htx : w.inFlight = some (.burst rs)) : w.copy.isSome = true := by
  obtain ⟨-, hburst, -⟩ := hw
  obtain ⟨-, c, hc, -⟩ := hburst rs htx
  simp [hc]

/-- R95: a request that its state issues goes in flight. -/
theorem Walker.bufferLaw.issues {w : Walker} (hw : w.bufferLaw) (tx : WalkerTx)
    (hstate : w.state = tx.issuedIn ∨ w.state = .aborting)
    (hburst : ∀ rs, tx = .burst rs → fifoWords rs ≤ 16 ∧ ∃ c, w.copy = some c ∧ w.fillOffset + 4 * fifoWords rs ≤ c.length) :
    Walker.bufferLaw { w with inFlight := some tx } := by
  obtain ⟨hinside, -, hcopy, hclosing, hreason, -⟩ := hw
  exact ⟨hinside, fun rs h => hburst rs (Option.some.inj h), hcopy, hclosing, hreason,
    fun t h => Option.some.inj h ▸ hstate⟩

/-- R98: a descriptor that passes its checks names a buffer of the sizes of R93. -/
theorem descriptorFault_none {i : StreamId} {w0 w1 w2 w3 : Word} (h : descriptorFault i w0 w1 w2 w3 = none) :
    16 ≤ w1.toNat ∧ w1.toNat ≤ 1048576 ∧ w1.toNat % 16 = 0 := by
  unfold descriptorFault at h
  split at h
  · cases h
  · split at h
    · cases h
    · split at h
      · cases h
      next hlength => omega

/-- R99: FILLING starts with an empty buffer of the descriptor's length. -/
theorem Walker.bufferLaw_filling {w : Walker} {c : DescriptorCopy} (hlength : 16 ≤ c.length ∧ c.length ≤ 1048576 ∧
    c.length % 16 = 0) (hcopy : w.copy = some c) (hfill : w.fillOffset = 0) (hreason : w.closeReason = none)
    (htx : w.inFlight = none) (hstate : w.state = .filling) : w.bufferLaw := by
  obtain ⟨hmin, hmax, hmod⟩ := hlength
  refine ⟨fun c' hc' => ?_, by simp [htx], by simp [hcopy], by simp [hstate], by simp [hreason], by simp [htx]⟩
  obtain rfl : c = c' := Option.some.inj (hcopy.symm.trans hc')
  exact ⟨hmin, hmax, hmod, by omega, by omega⟩

/-- R100: an empty buffer holds any record, so a FULL condition asks for bytes in the buffer. -/
theorem Walker.bufferLaw.filled_of_full {w : Walker} (hw : w.bufferLaw) (hrest : w.atRest = true) {fifo : List Record}
    (hfull : w.fullCondition fifo = true) : 0 < w.fillOffset := by
  obtain ⟨hinside, -, hcopy, -⟩ := hw
  obtain ⟨hfilling, -⟩ : w.state = .filling ∧ w.inFlight = none := by simpa [Walker.atRest] using hrest
  obtain ⟨c, hc⟩ := Option.isSome_iff_exists.1 (hcopy (.inl hfilling))
  obtain ⟨hmin, -⟩ := hinside c hc
  by_contra hempty
  have hremaining : 16 ≤ w.remaining := by
    simp only [Walker.remaining, hc]
    omega
  cases fifo with
  | nil =>
    simp [Walker.fullCondition] at hfull
    omega
  | cons r rs =>
    have := r.words_cases
    simp [Walker.fullCondition, Walker.fits] at hfull
    omega

/-! ## Changes of one walker -/

theorem State.bufferLaw_iff (s : State) : s.bufferLaw ↔ ∀ i, (s.walker i).bufferLaw := by
  constructor
  · rintro ⟨hevent, hcapture⟩ i
    cases i
    · exact hevent
    · exact hcapture
  · exact fun h => ⟨h .event, h .capture⟩

theorem State.bufferLaw.walker {s : State} (hs : s.bufferLaw) (i : StreamId) : (s.walker i).bufferLaw :=
  s.bufferLaw_iff.1 hs i

theorem State.bufferLaw_congr {s t : State} (hevent : t.eventWalker = s.eventWalker)
    (hcapture : t.captureWalker = s.captureWalker) (hs : s.bufferLaw) : t.bufferLaw := by
  simpa only [State.bufferLaw, hevent, hcapture] using hs

theorem State.walker_congr {s t : State} (hevent : t.eventWalker = s.eventWalker)
    (hcapture : t.captureWalker = s.captureWalker) (i : StreamId) : t.walker i = s.walker i := by
  cases i
  · exact hevent
  · exact hcapture

theorem State.bufferLaw_setWalker {s : State} (hs : s.bufferLaw) {i : StreamId} {w : Walker} (hw : w.bufferLaw) :
    (s.setWalker i w).bufferLaw := by
  rw [State.bufferLaw_iff]
  intro j
  rw [State.walker_setWalker]
  split
  · exact hw
  · exact hs.walker j

theorem State.bufferLaw_moveWalker {s : State} (hs : s.bufferLaw) {i : StreamId} {w : Walker} (hw : w.bufferLaw) :
    (s.moveWalker i w).bufferLaw :=
  State.bufferLaw_congr (s := s.setWalker i w) (by simp [State.moveWalker]) (by simp [State.moveWalker])
    (State.bufferLaw_setWalker hs hw)

/-! ## Flush ends and closes -/

theorem State.bufferLaw_endFlush {s : State} (hs : s.bufferLaw) (i : StreamId) (r : Result) : (s.endFlush i r).bufferLaw :=
  have hcleared : (s.setWalker i { s.walker i with flushCount := none }).bufferLaw :=
    State.bufferLaw_setWalker hs (hs.walker i)
  State.bufferLaw_congr (by simp [State.endFlush]) (by simp [State.endFlush]) hcleared

theorem State.bufferLaw_cutFlush {s : State} (hs : s.bufferLaw) (i : StreamId) (r : Result) : (s.cutFlush i r).bufferLaw := by
  unfold State.cutFlush
  split
  · exact State.bufferLaw_endFlush hs i r
  · exact hs

theorem State.bufferLaw_settleFlush {s : State} (hs : s.bufferLaw) (i : StreamId) : (s.settleFlush i).bufferLaw := by
  unfold State.settleFlush
  split
  · exact State.bufferLaw_endFlush hs i .done
  · exact hs

/-- R108: a flush over an empty buffer has ended, so one that is still done has bytes to close. -/
theorem State.filled_of_flushDone (s : State) (i : StreamId) (hrest : ((s.settleFlush i).walker i).atRest = true)
    (hdone : ((s.settleFlush i).walker i).flushDone = true) : 0 < ((s.settleFlush i).walker i).fillOffset := by
  unfold State.settleFlush at hrest hdone ⊢
  split at hdone
  · simp [State.walker_endFlush, Walker.flushDone] at hdone
  next hnot =>
    rw [if_neg hnot] at hrest ⊢
    simp only [hrest, hdone, Bool.true_and, decide_eq_true_eq] at hnot
    omega

theorem State.bufferLaw_settleClose {s : State} (hs : s.bufferLaw) (i : StreamId) (b : Bool)
    (hflush : (s.walker i).atRest = true → (s.walker i).flushDone = true → 0 < (s.walker i).fillOffset) :
    (s.settleClose i b).bufferLaw := by
  unfold State.settleClose
  dsimp only
  split
  · exact hs
  next hrest =>
    have hrest : (s.walker i).atRest = true := by simpa using hrest
    have hclosed (hfill : 0 < (s.walker i).fillOffset) (reason : CloseReason) : (s.closeBuffer i reason).bufferLaw :=
      State.bufferLaw_moveWalker hs ((hs.walker i).closing hrest hfill reason)
    split
    next hdone => exact hclosed (hflush hrest hdone) _
    · split
      next hfull => exact hclosed ((hs.walker i).filled_of_full hrest hfull) _
      · split
        next hlinger =>
          refine hclosed ?_ _
          simp only [Walker.lingerCondition, Bool.and_eq_true, decide_eq_true_eq] at hlinger
          exact hlinger.1.1
        · exact hs

theorem State.bufferLaw_settleWalker {s : State} (hs : s.bufferLaw) (i : StreamId) : (s.settleWalker i).bufferLaw := by
  have hflushed := State.bufferLaw_settleFlush hs i
  unfold State.settleWalker
  dsimp only
  split
  · exact State.bufferLaw_settleClose (s := (s.settleFlush i).drawn 1) hflushed i _
      (by simpa using s.filled_of_flushDone i)
  · exact State.bufferLaw_settleClose hflushed i _ (s.filled_of_flushDone i)

theorem State.bufferLaw_settle {s : State} (hs : s.bufferLaw) : s.settle.bufferLaw :=
  State.bufferLaw_settleWalker (State.bufferLaw_settleWalker hs _) _

/-! ## Faults and aborts -/

theorem State.bufferLaw_enterFaulted {s : State} (hs : s.bufferLaw) (i : StreamId) (cause : FaultCause) :
    (s.enterFaulted i cause).bufferLaw := by
  have hmoved : (s.moveWalker i
      { s.walker i with state := .faulted, copy := none, closeReason := none, inFlight := none }).bufferLaw :=
    State.bufferLaw_moveWalker hs (Walker.bufferLaw_of_vacant rfl rfl rfl (by simp) (by simp))
  exact State.bufferLaw_cutFlush (State.bufferLaw_congr (by simp) (by simp) hmoved) ..

theorem State.bufferLaw_completeAbort {s : State} (hs : s.bufferLaw) (i : StreamId) : (s.completeAbort i).bufferLaw := by
  have hcounted : ((s.setStream i { s.stream i with fifo := [] }).countLost i (s.stream i).fifo.length).bufferLaw :=
    State.bufferLaw_congr (by simp) (by simp) hs
  have hmoved := State.bufferLaw_moveWalker (i := i) hcounted
    (w := { s.walker i with
      state := .idle, current := 0, copy := none, fillOffset := 0, lingerAge := 0, closeReason := none, inFlight := none })
    (Walker.bufferLaw_of_vacant rfl rfl rfl (by simp) (by simp))
  exact State.bufferLaw_congr (by simp [State.completeAbort]) (by simp [State.completeAbort]) hmoved

theorem State.bufferLaw_abortFilled {s : State} (hs : s.bufferLaw) (i : StreamId) (hcopy : (s.walker i).copy.isSome = true)
    (htx : (s.walker i).inFlight = none) : (s.abortFilled i).bufferLaw := by
  unfold State.abortFilled
  dsimp only
  split
  · exact State.bufferLaw_moveWalker hs ((hs.walker i).abortClosing hcopy htx)
  · exact State.bufferLaw_completeAbort hs i

theorem State.bufferLaw_abortWalker {s : State} (hs : s.bufferLaw) (i : StreamId) : (s.abortWalker i).bufferLaw := by
  have hw := hs.walker i
  have hset : (s.setWalker i { s.walker i with abortError := false }).bufferLaw := State.bufferLaw_setWalker hs hw
  have hdone := State.bufferLaw_completeAbort hset i
  have hwaits : ((s.setWalker i { s.walker i with abortError := false }).moveWalker i
      { s.walker i with state := .aborting, abortError := false }).bufferLaw :=
    State.bufferLaw_moveWalker hset hw.aborting
  unfold State.abortWalker
  dsimp only
  split
  · exact hdone
  · exact hdone
  · exact hdone
  · exact hdone
  · split
    · exact hwaits
    · exact hdone
  next hstate =>
    split
    · exact hwaits
    next hidle =>
      obtain ⟨-, -, hcopy, -⟩ := hw
      refine State.bufferLaw_abortFilled hset i ?_ ?_
      · simpa using hcopy (.inl hstate)
      · simpa using hidle
  · exact hwaits
  · exact hset

/-! ## Completions -/

theorem State.inFlight_of_walkerAnswering {s : State} {e : IssueEntry} {i : StreamId} {tx : WalkerTx}
    (h : s.walkerAnswering = some (e, i, tx)) : (s.walker i).inFlight = some tx := by
  unfold State.walkerAnswering at h
  split at h
  · split at h
    · obtain ⟨tx', htx, heq⟩ := Option.map_eq_some_iff.1 h
      cases heq
      exact htx
    · obtain ⟨tx', htx, heq⟩ := Option.map_eq_some_iff.1 h
      cases heq
      exact htx
    all_goals cases h
  · cases h

theorem State.bufferLaw_takeFetch {s : State} (hs : s.bufferLaw) {i : StreamId} (htx : (s.walker i).inFlight = some .fetch)
    (ans : MemResponse) : (s.takeFetch i ans).bufferLaw := by
  unfold State.takeFetch State.judgeDescriptor
  split
  · exact State.bufferLaw_completeAbort hs i
  next haborting =>
    have hfetching : (s.walker i).state = .fetching := by
      obtain ⟨-, -, -, -, -, hissued⟩ := hs.walker i
      exact (hissued _ htx).resolve_right haborting
    have hreason : (s.walker i).closeReason = none := (hs.walker i).reason_none (by simp [hfetching]) haborting
    split
    · exact State.bufferLaw_enterFaulted hs ..
    · dsimp only
      split
      · exact State.bufferLaw_enterFaulted hs ..
      next hpasses =>
        split
        · exact State.bufferLaw_moveWalker hs
            (Walker.bufferLaw_filling (descriptorFault_none hpasses) rfl rfl hreason rfl rfl)
        · have hmoved := State.bufferLaw_moveWalker hs (i := i)
            (w := { s.walker i with state := .waiting, copy := none, inFlight := none })
            (Walker.bufferLaw_of_vacant rfl hreason rfl (by simp) (by simp))
          exact State.bufferLaw_cutFlush (State.bufferLaw_congr (by simp) (by simp) hmoved) ..

theorem State.bufferLaw_takeBurst {s : State} (hs : s.bufferLaw) {i : StreamId} {rs : List Record}
    (htx : (s.walker i).inFlight = some (.burst rs)) (code : RespCode) : (s.takeBurst i rs code).bufferLaw := by
  have hcopy := (hs.walker i).copy_of_burst htx
  cases code with
  | okay =>
    have hset := State.bufferLaw_setWalker hs (i := i) ((hs.walker i).afterBurst htx)
    simp only [State.takeBurst]
    split
    · exact State.bufferLaw_abortFilled hset i (by simpa [Walker.afterBurst] using hcopy) (by simp [Walker.afterBurst])
    · exact hset
  | error =>
    have hlost : (s.countLost i rs.length).bufferLaw := State.bufferLaw_congr (by simp) (by simp) hs
    have hwalker : (s.countLost i rs.length).walker i = s.walker i := State.walker_congr (by simp) (by simp) i
    simp only [State.takeBurst]
    split
    · refine State.bufferLaw_abortFilled (State.bufferLaw_setWalker hlost ?_) i ?_ (by simp)
      · exact (hlost.walker i).answered
      · simpa [hwalker] using hcopy
    · exact State.bufferLaw_enterFaulted hlost ..

theorem State.bufferLaw_flushAtClose {s : State} (hs : s.bufferLaw) (i : StreamId) (ended : Bool) :
    (s.flushAtClose i ended).bufferLaw := by
  unfold State.flushAtClose
  split
  · exact State.bufferLaw_endFlush hs ..
  · split
    · exact State.bufferLaw_endFlush hs ..
    · exact hs
  · exact hs

theorem State.bufferLaw_enterEnded {s : State} (hs : s.bufferLaw) (i : StreamId) : (s.enterEnded i).bufferLaw := by
  have hmoved : (s.moveWalker i
      { s.walker i with state := .ended, copy := none, closeReason := none, inFlight := none }).bufferLaw :=
    State.bufferLaw_moveWalker hs (Walker.bufferLaw_of_vacant rfl rfl rfl (by simp) (by simp))
  unfold State.enterEnded
  exact State.bufferLaw_congr (by simp) (by simp) hmoved

theorem State.bufferLaw_followLink {s : State} (hs : s.bufferLaw) (i : StreamId) (link : Word) :
    (s.followLink i link).bufferLaw :=
  State.bufferLaw_moveWalker hs (Walker.bufferLaw_of_vacant rfl rfl rfl (by simp) (by simp))

theorem State.bufferLaw_takeStatus {s : State} (hs : s.bufferLaw) (i : StreamId) (code : RespCode) :
    (s.takeStatus i code).bufferLaw := by
  have hset := State.bufferLaw_setWalker hs (i := i) (hs.walker i).answered
  have hclosed := State.bufferLaw_congr (t := (s.setWalker i { s.walker i with inFlight := none }).bufferClosed i)
    (by simp [State.bufferClosed]) (by simp [State.bufferClosed]) hset
  unfold State.takeStatus
  dsimp only
  split
  · cases code with
    | okay =>
      simp only [State.abortCloseCompleted]
      exact State.bufferLaw_completeAbort hclosed i
    | error =>
      simp only [State.abortCloseCompleted]
      refine State.bufferLaw_completeAbort (State.bufferLaw_setWalker hset ?_) i
      exact hset.walker i
  · split
    · cases code with
      | error => exact State.bufferLaw_enterFaulted hset ..
      | okay =>
        simp only [State.closeCompleted]
        split
        · exact State.bufferLaw_flushAtClose (State.bufferLaw_enterEnded hclosed i) i true
        · exact State.bufferLaw_flushAtClose (State.bufferLaw_followLink hclosed i _) i false
    · exact hset

/-! ## Grants -/

/-- R100: a burst takes at most 16 words, and no more than the buffer has space for. -/
theorem State.fifoWords_burstRecords_le (s : State) (i : StreamId) :
    fifoWords (s.burstRecords i) ≤ 16 ∧ 4 * fifoWords (s.burstRecords i) ≤ (s.walker i).remaining := by
  have hfits := fifoWords_recordsThatFit_le (min Config.burstWords ((s.walker i).remaining / 4)) (s.stream i).fifo
  rw [← State.burstRecords] at hfits
  simp only [Config.burstWords] at hfits
  omega

theorem State.bufferLaw_grantWalker {s : State} (hs : s.bufferLaw) {i : StreamId} (hstands : s.walkerStands i = true) :
    (s.grantWalker i).bufferLaw := by
  have hw := hs.walker i
  unfold State.grantWalker
  dsimp only
  split
  next hfetch =>
    have hfetching : (s.walker i).state = .fetching := by
      simp only [Walker.wantsFetch, Bool.and_eq_true, decide_eq_true_eq] at hfetch
      exact hfetch.1
    exact State.bufferLaw_setWalker hs (hw.issues .fetch (.inl hfetching) (by simp))
  next hnoFetch =>
    split
    next hburst =>
      have hfilling : (s.walker i).state = .filling := by
        simp only [Walker.wantsBurst, Walker.atRest, Bool.and_eq_true, decide_eq_true_eq] at hburst
        exact hburst.1.1
      obtain ⟨hinside, -, hcopy, -⟩ := hw
      obtain ⟨c, hc⟩ := Option.isSome_iff_exists.1 (hcopy (.inl hfilling))
      obtain ⟨-, -, -, hle, -⟩ := hinside c hc
      obtain ⟨hwords, hspace⟩ := s.fifoWords_burstRecords_le i
      simp only [Walker.remaining, hc] at hspace
      have hissued := (hs.walker i).issues (.burst (s.burstRecords i)) (.inl hfilling) (by
        rintro rs ⟨rfl⟩
        exact ⟨hwords, c, hc, by omega⟩)
      have hset := State.bufferLaw_setWalker hs (i := i) hissued
      exact State.bufferLaw_congr (by cases i <;> rfl) (by cases i <;> rfl) hset
    next hnoBurst =>
      have hstate : (s.walker i).state = .closing ∨ (s.walker i).state = .aborting := by
        simp only [State.walkerStands, hnoFetch, hnoBurst, Bool.false_or, Walker.wantsStatus, Bool.and_eq_true,
          Bool.or_eq_true, decide_eq_true_eq] at hstands
        obtain ⟨-, h | ⟨h, -⟩⟩ := hstands
        · exact .inl h
        · exact .inr h
      exact State.bufferLaw_setWalker hs (hw.issues .status hstate (by simp))

theorem State.bufferLaw_grant {s : State} (hs : s.bufferLaw) {w : Requester} (hw : s.winner = some w) :
    (s.grant w).bufferLaw := by
  have hstands := State.stands_of_winner hw
  cases w with
  | event => exact State.bufferLaw_grantWalker hs (i := .event) hstands
  | capture => exact State.bufferLaw_grantWalker hs (i := .capture) hstands
  | _ => exact State.bufferLaw_congr (by simp [State.grant, State.grantTo]) (by simp [State.grant, State.grantTo]) hs

/-! ## The time base, watched writes and commands -/

theorem State.bufferLaw_ageWalker {s : State} (hs : s.bufferLaw) (i : StreamId) : (s.ageWalker i).bufferLaw := by
  unfold State.ageWalker
  dsimp only
  split
  · exact State.bufferLaw_setWalker hs (hs.walker i)
  · exact hs

theorem State.bufferLaw_advance {s : State} (hs : s.bufferLaw) : s.advance.bufferLaw := by
  have hticked : State.bufferLaw { s with time := { s.time with tick := s.time.tick + 1, prescale := 0 } } := hs
  exact State.bufferLaw_congr (by simp [State.advance]) (by simp [State.advance])
    (State.bufferLaw_ageWalker (State.bufferLaw_ageWalker hticked .event) .capture)

theorem State.bufferLaw_refetch {s : State} (hs : s.bufferLaw) {i : StreamId} (hwaiting : (s.walker i).state = .waiting) :
    (s.refetch i).bufferLaw := by
  refine State.bufferLaw_moveWalker hs ((hs.walker i).fetching ?_ ?_ rfl (.inl rfl) rfl rfl rfl)
  · rintro (_ | _ | _) <;> simp [hwaiting, WalkerTx.issuedIn]
  · simp [hwaiting]

theorem State.bufferLaw_startChain {s : State} (hs : s.bufferLaw) {i : StreamId}
    (hstartable : (s.walker i).state.startable = true) (a : Word) : (s.startChain i a).bufferLaw := by
  refine State.bufferLaw_moveWalker hs ((hs.walker i).fetching ?_ ?_ rfl (.inr rfl) rfl rfl rfl)
  · rintro (_ | _ | _) h <;> simp [h, WalkerTx.issuedIn, WalkerState.startable] at hstartable
  · intro h
    simp [h, WalkerState.startable] at hstartable

theorem State.bufferLaw_offerToWalker {s : State} (hs : s.bufferLaw) (width : Nat) (wc : WriteCompletion) (i : StreamId) :
    (s.offerToWalker width wc i).bufferLaw := by
  unfold State.offerToWalker
  split
  next h => exact State.bufferLaw_refetch hs h.1
  · exact hs

/-- R92: both walkers are at their reset values after RECORD_RESET. -/
theorem State.walker_resetRecording (s : State) (i : StreamId) : s.resetRecording.walker i = Walker.reset := by
  have hvoided (u : State) : u.voidWalkers.walker i = u.walker i := State.walker_congr (by simp) (by simp) i
  cases i <;> simp [State.resetRecording, State.resetWalker, hvoided]

theorem CommandEffect.bufferLaw {n : BitVec 8} {s u : State} (h : CommandEffect n s u) (hs : s.bufferLaw) : u.bufferLaw := by
  cases h with
  | abort i => exact State.bufferLaw_abortWalker (s := s.startRunning .setChain n (some i)) hs i
  | startChain i a hstartable =>
    exact State.bufferLaw_congr (by simp) (by simp) (State.bufferLaw_startChain hs hstartable a)
  | kick i hwaiting => exact State.bufferLaw_congr (by simp) (by simp) (State.bufferLaw_refetch hs hwaiting)
  | flush i _ => exact State.bufferLaw_setWalker (s := s.startRunning .flush n (some i)) hs (hs.walker i)
  | recordReset =>
    have hreset : Walker.reset.bufferLaw := Walker.bufferLaw_of_vacant rfl rfl rfl (by simp [Walker.reset]) (by simp [Walker.reset])
    have hrecording : s.resetRecording.bufferLaw := by
      rw [State.bufferLaw_iff]
      intro i
      rwa [State.walker_resetRecording]
    exact State.bufferLaw_congr (by simp) (by simp) hrecording
  | _ => exact State.bufferLaw_congr (by simp) (by simp) hs

theorem State.bufferLaw_deliver {s : State} (hs : s.bufferLaw) (code : BitVec 8) (p : Privilege) (c : Option Command) :
    (s.deliver code p c).bufferLaw := by
  refine s.deliver_keeps code p c (fun r => ?_) (fun n u _ h => ?_)
  · exact State.bufferLaw_congr (by simp) (by simp) hs
  · exact h.bufferLaw hs

theorem State.bufferLaw_completePass {s : State} (hs : s.bufferLaw) (q : QueueEntry) (ans : MemResponse) :
    (s.completePass q ans).bufferLaw := by
  apply State.completePass_keeps q ans
  · exact State.bufferLaw_congr (by simp) (by simp) hs
  · exact fun u k hu => hu
  · exact fun u r hu => State.bufferLaw_congr (by simp) (by simp) hu
  · exact fun u hu => State.bufferLaw_congr (by simp) (by simp) hu
  · exact fun u hu => State.bufferLaw_congr (by simp) (by simp) hu
  · exact fun u width wc hu => State.bufferLaw_offerToWalker (State.bufferLaw_offerToWalker hu width wc .event) width wc .capture
  · intro u wc hu
    exact State.commandUnit_keeps wc (State.bufferLaw_congr (by simp) (by simp) hu)
      fun v code p c hv => State.bufferLaw_deliver hv ..

/-! ## The law -/

theorem EventEffect.bufferLaw {s u : State} (h : EventEffect s u) (hs : s.bufferLaw) : u.bufferLaw := by
  have hpopped : s.popIssued.bufferLaw := hs
  cases h with
  | grant w hw _ => exact State.bufferLaw_grant hs hw
  | completePass e q ans _ => exact State.bufferLaw_completePass hs q ans
  | takeFetch e i ans h =>
    exact State.bufferLaw_takeFetch (s := s.popIssued) hs (State.inFlight_of_walkerAnswering (s := s) h) ans
  | takeBurst e i rs code h =>
    exact State.bufferLaw_takeBurst (s := s.popIssued) hs (State.inFlight_of_walkerAnswering (s := s) h) code
  | takeStatus e i code _ => exact State.bufferLaw_takeStatus hpopped i code
  | advance _ => exact State.bufferLaw_advance hs
  | deliver code p c => exact State.bufferLaw_deliver hs ..
  | _ => exact State.bufferLaw_congr (by simp) (by simp) hs

/-- Settles O58: by the induction over a step. -/
theorem everyStepKeepsWalkersInTheirBuffers : Obligations.EveryStepKeepsWalkersInTheirBuffers := by
  intro s t hs hstep
  refine step_keeps (P := State.bufferLaw) ?_ ?_ ?_ ?_ ?_ hs hstep
  · exact fun u rest hu => hu
  · exact fun u a m _ => by
      have hreset : Walker.reset.bufferLaw :=
        Walker.bufferLaw_of_vacant rfl rfl rfl (by simp [Walker.reset]) (by simp [Walker.reset])
      exact ⟨hreset, hreset⟩
  · exact fun u a m hu => hu
  · exact fun u v hu h => h.bufferLaw hu
  · exact fun u hu => State.bufferLaw_settle hu

end Sys2Proof.Machine
end

section
/-! SUPPORT. Steps, RESET and its release (R8, R37, R38, R126), what RESET leaves (O4), and the deciding entry that a decision
records (R15, R19). -/

namespace Sys2Proof.Machine

/-! ## Steps and reset -/

/-- Settles O1: by the definition of a step. -/
theorem stepRunsTheFrontEvent : Obligations.StepRunsTheFrontEvent := fun _ _ _ => rfl

theorem exec_reset (a : BitVec 4) (m : StartMode) (s : State) : exec (.reset a m) s = .next (s.assertReset a m) := rfl

/-- Settles O2: each part is at the value that `State.resetValues` gives it. -/
theorem resetAbandonsWorkAndRestoresResetValues : Obligations.ResetAbandonsWorkAndRestoresResetValues := by
  intro s a m
  have hones : ∀ n ∈ (Vector.replicate 32 1).toList, n = 1 := by simp
  have hzeros : ∀ n ∈ (Vector.replicate 32 0).toList, n = 0 := by simp
  have hshadow : ∀ w ∈ (Vector.replicate 7 (0 : Word)).toList, w = 0 := by simp
  exact ⟨s.assertReset a m, exec_reset a m s, rfl, rfl, rfl, rfl, rfl, rfl, rfl, rfl, rfl, rfl, rfl, hones, hzeros, rfl, rfl,
    fun i => by cases i <;> rfl, fun i => by cases i <;> rfl, rfl, hshadow, rfl, rfl, rfl, rfl, rfl, rfl, rfl⟩

theorem exec_resetRelease_of_asserted {s : State} (h : s.resetAsserted = true) (a : BitVec 4) (m : StartMode) :
    exec (.resetRelease a m) s = .next (s.releaseReset a m) := by
  dsimp only [exec, execResetRelease]
  rw [h]
  rfl

/-- Settles O3: the reset policy by its start mode. -/
theorem releaseLoadsTheStrappedResetPolicy : Obligations.ReleaseLoadsTheStrappedResetPolicy := by
  intro s a m hasserted
  rw [exec_resetRelease_of_asserted hasserted]
  cases m <;> rfl

/-- Settles O4: every list is empty, every count 0 and every timer stopped. -/
theorem lawsHoldAtReset : Obligations.LawsHoldAtReset := by
  refine ⟨?queue, ?pending, ?stream, ?arbiter, ?table, ?counter, ?line, ?group, ?buffer, ?owner, rfl⟩
  case queue => simp [State.queueLaw, State.reset, State.resetValues]
  case pending => rfl
  case stream => simp [State.streamLaw, State.reset, State.resetValues, RecordStream.reset, fifoWords]
  case arbiter => simp [State.arbiterLaw, State.reset, State.resetValues]
  case table =>
    refine ⟨⟨resetPolicy_valid _, ?_⟩, ?_, ?_⟩
    · simp [State.reset, State.resetValues, resetPolicy]
    · simp [State.reset, State.resetValues]
    · simp [State.reset, State.resetValues]
  case counter => simp [State.counterLaw, State.reset, State.resetValues]
  case line => simp [State.lineLaw, State.reset, State.resetValues]
  case group => simp [State.groupLaw, State.reset, State.resetValues]
  case buffer =>
    have hreset : Walker.reset.bufferLaw :=
      Walker.bufferLaw_of_vacant rfl rfl rfl (by simp [Walker.reset]) (by simp [Walker.reset])
    exact ⟨hreset, hreset⟩
  case owner => exact State.ownerLaw_of_idle rfl (by simp [State.reset, State.resetValues]) rfl

/-! ## The deciding entry -/

/-- R11, R19: a decision that ends before lookup records no entry. -/
theorem judge_entry_of_early {p : Policy} {buffers : List DescriptorCopy} {r : Request}
    (h : FormatCheckFails p r ∨ AliasCheckFails p r ∨ SegmentCheckFails p r) : (p.judge buffers r).2 = none := by
  by_cases hf : FormatCheckFails p r
  · rw [judge_of_formatCheckFails hf]
  by_cases ha : AliasCheckFails p r
  · rw [judge_of_aliasCheckFails hf ha]
  obtain hf' | ha' | hs := h
  · exact absurd hf' hf
  · exact absurd ha' ha
  · rw [judge_of_segmentCheckFails hf ha hs]

/-- R15: a decision that reaches lookup records what lookup finds. -/
theorem judge_entry_eq_lookup {p : Policy} {buffers : List DescriptorCopy} {r : Request} (hf : ¬ FormatCheckFails p r)
    (ha : ¬ AliasCheckFails p r) (hs : ¬ SegmentCheckFails p r) : (p.judge buffers r).2 = p.lookup r := by
  obtain ⟨k, e, hd⟩ | hn := exists_decidingEntry_or_noDecidingEntry p r
  · rw [judge_of_decidingEntry hf ha hs hd, (lookup_eq_some_iff p r k).2 ⟨e, hd⟩]
  · rw [judge_of_noDecidingEntry hf ha hs hn, (lookup_eq_none_iff p r).2 hn]

/-- Settles O7: the entry recorded is lookup's, and lookup finds the first match. -/
theorem lookupRecordsTheFirstMatchingEntry : Obligations.LookupRecordsTheFirstMatchingEntry := by
  intro p buffers r
  refine ⟨judge_entry_of_early, fun hf ha hs => ?_⟩
  rw [judge_entry_eq_lookup hf ha hs]
  exact ⟨lookup_eq_some_iff p r, lookup_eq_none_iff p r⟩

end Sys2Proof.Machine
end

section
/-! SUPPORT. Events outside RESET: what an event makes of a state, an answer that an owner is owed (R123), and the events
whose effect no close or flush condition reads. -/

namespace Sys2Proof.Machine

/-! ## Events -/

/-- Two states that agree part by part. -/
theorem State.eq_of_parts {s t : State} (anchorSel : s.anchorSel = t.anchorSel) (resetAsserted : s.resetAsserted = t.resetAsserted)
    (queue : s.queue = t.queue) (policy : s.policy = t.policy) (denial : s.denial = t.denial)
    (capture : s.capture = t.capture) (eventStream : s.eventStream = t.eventStream)
    (captureStream : s.captureStream = t.captureStream) (eventWalker : s.eventWalker = t.eventWalker)
    (captureWalker : s.captureWalker = t.captureWalker) (arbiter : s.arbiter = t.arbiter) (command : s.command = t.command)
    (report : s.report = t.report) (notices : s.notices = t.notices) (time : s.time = t.time)
    (memoryPort : s.memoryPort = t.memoryPort) (processorPort : s.processorPort = t.processorPort)
    (freeCount : s.freeCount = t.freeCount) (pending : s.pending = t.pending) : s = t := by
  cases s
  cases t
  simp_all

theorem State.live_of_released {s : State} (h : s.resetAsserted = false) : s.live = true := by
  simp [State.live, h]

/-- An event whose condition holds: its effect, and the judgement of the walkers. -/
theorem event_of_enabled {s : State} {enabled : Bool} (h : enabled = true) (f : State → State) :
    event enabled f s = .next (f s).settle := by
  rw [event, if_pos h]

theorem event_of_disabled {s : State} {enabled : Bool} (h : enabled = false) (f : State → State) :
    event enabled f s = .next s := by
  rw [event, h]
  rfl

/-! ## Answers to their owners (R123) -/

theorem State.answering_of_owes {s : State} {r : Requester} {e : IssueEntry} (h : s.owesAnswerTo r e) :
    s.answering = some e := by
  obtain ⟨-, hdrain, -, hlive, rest, hissued⟩ := h
  simp [State.answering, hdrain, hissued, hlive]

theorem State.owesAnswerTo.live {s : State} {r : Requester} {e : IssueEntry} (h : s.owesAnswerTo r e) : s.live = true :=
  State.live_of_released h.1

theorem State.owesAnswerTo.requester {s : State} {r : Requester} {e : IssueEntry} (h : s.owesAnswerTo r e) :
    e.requester = r := by
  obtain ⟨-, -, hrequester, -⟩ := h
  exact hrequester

/-- R123: an answer takes its entry off the issue list. -/
theorem State.popIssued_eq (s : State) :
    s.popIssued = { s with arbiter := { s.arbiter with issued := s.arbiter.issued.tail } } := rfl

/-! ## Answers without an owner (R38, R123) -/

theorem exec_drainResponse {s : State} (h : 0 < s.arbiter.drain) (ans : MemResponse) :
    exec (.drainResponse ans) s =
      .next (State.settle { s with arbiter := { s.arbiter with drain := s.arbiter.drain - 1 } }) := by
  dsimp only [exec, execDrainResponse]
  exact event_of_enabled (by simpa using h) _

theorem exec_voidAnswerDiscard {s : State} (h : s.answerUnowned = true) (ans : MemResponse) :
    exec (.voidAnswerDiscard ans) s = .next s.popIssued.settle := by
  dsimp only [exec, execVoidAnswerDiscard]
  exact event_of_enabled h _

/-- Settles O18: each discard changes the arbiter alone, which no close or flush condition reads. -/
theorem drainedAndVoidAnswersReachNoOwner : Obligations.DrainedAndVoidAnswersReachNoOwner := by
  refine ⟨fun s ans hsettled hdrain => ?drained, fun s ans e rest hsettled hdrain hissued hvoid => ?voided,
    fun s ans hsettled hdrain hissued => ?empty⟩
  case drained =>
    rw [exec_drainResponse hdrain]
    exact congrArg _ (State.settle_of_frame hsettled rfl rfl rfl rfl rfl rfl)
  case voided =>
    have hunowned : s.answerUnowned = true := by simp [State.answerUnowned, hdrain, hissued, hvoid]
    have hpopped : s.popIssued = { s with arbiter := { s.arbiter with issued := rest } } := by
      simp [State.popIssued_eq, hissued]
    rw [exec_voidAnswerDiscard hunowned, ← hpopped]
    exact congrArg _ (State.settle_of_frame hsettled rfl rfl rfl rfl rfl rfl)
  case empty =>
    have hunowned : s.answerUnowned = true := by simp [State.answerUnowned, hdrain, hissued]
    have hpopped : s.popIssued = s := by
      rw [State.popIssued_eq, hissued, List.tail_nil, ← hissued]
    rw [exec_voidAnswerDiscard hunowned, hpopped, State.settle_of_settled hsettled]

/-! ## Delivery to the processor (R32, R33, R34) -/

theorem exec_deliveryEnd_of_delivering {s : State} {h : QueueEntry} {rest : List QueueEntry} (hlive : s.resetAsserted = false)
    (hqueue : s.queue = h :: rest) (hstate : h.state = .delivering) : exec .deliveryEnd s = .next s.endDelivery.settle := by
  dsimp only [exec, execDeliveryEnd]
  exact event_of_enabled (by simp [State.live, hlive, State.headDelivers, hqueue, hstate]) _

/-- R33, R40: the part's own answer to a denied transaction. -/
theorem denialAnswer_eq (r : Request) (d : DenialTerms) :
    denialAnswer r d =
      { code := if d.response = .quiet then .okay else .error
        data := if r.kind = .write then [] else List.replicate r.beats d.fill } := by
  obtain ⟨address, kind, privilege, master, beats, writeData⟩ := r
  obtain ⟨kind', response, fill, report⟩ := d
  cases kind <;> cases response <;> rfl

/-- Settles O19: the head's answer is handed over, and `promoteHead` judges the new head. -/
theorem deliveryHandsOverTheHeadsResponse : Obligations.DeliveryHandsOverTheHeadsResponse := by
  intro s h rest hlive hsettled hqueue hstate
  have hhanded : s.delivering = h.answer := by simp [State.delivering, hqueue, hstate]
  have hends : s.endDelivery = { s with queue := promoteHead rest, processorPort := h.answer } := by
    simp [State.endDelivery, hhanded, hqueue]
  have hstays : s.endDelivery.settle = s.endDelivery := State.settle_of_frame hsettled rfl rfl rfl rfl rfl rfl
  refine ⟨s.endDelivery, ?_, ?_, ?_, ?_, ?_, ?_, ?_⟩
  · rw [exec_deliveryEnd_of_delivering hlive hqueue hstate, hstays]
  all_goals rw [hends]
  · exact map_request_promoteHead rest
  · exact tail_promoteHead rest
  · intro x y hx hy
    cases rest with
    | nil => cases hx
    | cons e es =>
      simp only [List.head?_cons, Option.some.injEq] at hx
      simp only [promoteHead_cons, List.head?_cons, Option.some.injEq] at hy
      rw [← hy, hx]
  · intro v hv
    simp [QueueEntry.answer, hv]
  · intro d hd
    simp [QueueEntry.answer, hd, denialAnswer_eq]

/-! ## The report writer's answer (R161, R163) -/

theorem exec_reportWriteCompletion_of_owes {s : State} {e : IssueEntry} {w : ReportWrite} (h : s.owesAnswerTo .report e)
    (hw : s.report.inFlight = some w) (code : RespCode) :
    exec (.reportWriteCompletion code) s = .next (s.popIssued.reportCompleted w code).settle := by
  have hanswering : s.reportAnswering = some w := by
    simp [State.reportAnswering, State.answering_of_owes h, h.requester, hw]
  dsimp only [exec, execReportWriteCompletion]
  rw [hanswering]
  exact event_of_enabled h.live _

/-- R161: an ERROR sets the fault flag, and dirties the notices section (bit 1) if the flag was clear. -/
theorem State.reportFault_eq (s : State) :
    s.reportFault = { s with report := { s.report with
      dirty := if s.report.fault = false then s.report.dirty ||| 0x02 else s.report.dirty
      fault := true } } := by
  rw [State.reportFault, State.markDirtyIf_eq]
  cases s.report.fault
  · rfl
  · simp

/-- R163, R164: a carried raw set is published, and the line follows it. -/
theorem State.publish_eq (s : State) (carried : Option (BitVec 13)) :
    s.publish carried = { s with
      notices := match carried with
        | some raw => { s.notices with published := raw, line := decide (raw &&& s.notices.enable ≠ 0) }
        | none => s.notices } := by
  cases carried
  · rfl
  · simp only [State.publish, noticeLevel_eq]

/-- R161, R163: what a section write's answer makes of a state. -/
theorem State.reportCompleted_eq (s : State) (w : ReportWrite) (code : RespCode) :
    s.reportCompleted w code = { s with
      report :=
        { dirty := if code = .error ∧ s.report.fault = false then s.report.dirty ||| 0x02 else s.report.dirty
          inFlight := none
          fault := s.report.fault || decide (code = .error) }
      notices := match w.raw with
        | some raw => { s.notices with published := raw, line := decide (raw &&& s.notices.enable ≠ 0) }
        | none => s.notices } := by
  cases code <;> simp [State.reportCompleted, State.reportFault_eq, State.publish_eq]

/-- Settles O23: the answer changes the issue list, the report unit and the notices, which no close or flush condition
reads. -/
theorem reportAnswerPublishesAndFlagsErrors : Obligations.ReportAnswerPublishesAndFlagsErrors := by
  intro s e w code howes hsettled hw
  rw [exec_reportWriteCompletion_of_owes howes hw, State.reportCompleted_eq]
  exact congrArg _ (State.settle_of_frame hsettled rfl rfl rfl rfl rfl rfl)

/-! ## The statistics engine's answers (R49) -/

theorem exec_statsBurstCompletion_of_owes {s : State} {e : IssueEntry} {g : StatsEngine} (h : s.owesAnswerTo .command e)
    (hloader : s.command.loader = none) (hg : s.command.stats = some g) (hawaited : g.answered < g.granted)
    (code : RespCode) : exec (.statsBurstCompletion code) s = .next (s.popIssued.statsCompleted g code).settle := by
  have hanswering : s.statsAnswering = some g := by
    simp [State.statsAnswering, State.answering_of_owes h, h.requester, hloader, hg, Option.filter, hawaited]
  dsimp only [exec, execStatsBurstCompletion]
  rw [hanswering]
  exact event_of_enabled h.live _

/-- R135: the running command's own completion ends it with its number. -/
theorem State.finish_of_running {s : State} {c : RunningCommand} {who : Option StreamId} (hc : s.command.running = some c)
    (hwho : c.stream = who) (r : Result) (f : Nat) : s.finish who r f = { s with
      command := { s.command with
        running := none
        result := { code := c.code, result := r.code, fieldIndex := BitVec.ofNat 12 f, number := c.number } }
      notices := { s.notices with raw := s.notices.raw ||| 0x400#13 }
      report := { s.report with
        dirty := s.report.dirty ||| 0x01#8 ||| (if s.notices.raw.getLsbD 10 then 0#8 else 0x02#8) } } := by
  simp only [State.finish, hc, hwho, if_true, State.setResult_eq]

/-- Settles O24: by the count of answers before this one. -/
theorem secondStatsAnswerCompletesTheCommand : Obligations.SecondStatsAnswerCompletesTheCommand := by
  intro s e g code n howes hsettled hloader hg hawaited hrunning
  rw [exec_statsBurstCompletion_of_owes howes hloader hg hawaited]
  refine ⟨fun hfirst => ?first, fun hsecond => ?second⟩
  case first =>
    have hcompleted : s.popIssued.statsCompleted g code = { s with
        arbiter := { s.arbiter with issued := s.arbiter.issued.tail }
        command := { s.command with
          stats := some { g with answered := 1, error := g.error || decide (code = .error) } } } := by
      simp [State.statsCompleted, hfirst, State.popIssued_eq]
    rw [hcompleted]
    exact congrArg _ (State.settle_of_frame hsettled rfl rfl rfl rfl rfl rfl)
  case second =>
    have hresult : (if (g.error || decide (code = .error)) = true then Result.memerr else .done).code =
        if g.error = true ∨ code = .error then (9 : BitVec 4) else 1 := by
      by_cases h : g.error = true ∨ code = .error
      · simp [h, Result.code]
      · simp [h, Result.code]
    have hcompleted : s.popIssued.statsCompleted g code = { s with
        arbiter := { s.arbiter with issued := s.arbiter.issued.tail }
        command := { s.command with
          stats := none
          running := none
          result :=
            { code := 0x0F, result := if g.error = true ∨ code = .error then 9 else 1, fieldIndex := 0, number := n } }
        notices := { s.notices with raw := s.notices.raw ||| 0x400 }
        report := { s.report with
          dirty := s.report.dirty ||| 0x01 ||| (if s.notices.raw.getLsbD 10 then 0 else 0x02) } } := by
      unfold State.statsCompleted
      dsimp only
      rw [if_pos hsecond]
      refine (State.finish_of_running (s := { s.popIssued with command := { s.command with stats := none } }) hrunning rfl
        _ _).trans ?_
      rw [hresult]
      rfl
    rw [hcompleted]
    exact congrArg _ (State.settle_of_frame hsettled rfl rfl rfl rfl rfl rfl)

/-! ## Refused deliveries (R134) -/

/-- R133, R134: a delivery outside RESET whose effect is a refusal. -/
theorem exec_of_refused {s : State} {i : Instr} {p : Privilege} {code : BitVec 8} {r : BitVec 4}
    (hlive : s.resetAsserted = false) (hsettled : s.settled = true) (hrow : deliveredBy i = some (p, code))
    (hrefused : s.deliver code p (commandOf code) = s.completed code r) : exec i s = .next (s.completed code r) := by
  rw [exec_of_deliveredBy hrow, event_of_enabled (State.live_of_released hlive), hrefused]
  exact congrArg _ (State.settle_of_settled hsettled)

/-- Settles O31: one refusal per stage. -/
theorem refusedDeliveryChangesOnlyItsAccount : Obligations.RefusedDeliveryChangesOnlyItsAccount := by
  intro s c p code hlive hsettled hrow
  refine ⟨fun hbusy => ?busy, fun hidle huser => ?user, fun hidle hsupervisor hunknown => ?unknown⟩
  case busy => exact exec_of_refused hlive hsettled hrow (State.deliver_busy s code p _ hbusy)
  case user =>
    subst huser
    exact exec_of_refused hlive hsettled hrow (State.deliver_user s code _ hidle)
  case unknown =>
    subst hsupervisor
    refine exec_of_refused hlive hsettled hrow ?_
    rw [(commandOf_eq_none_iff code).2 hunknown]
    exact State.deliver_unknown s code hidle

end Sys2Proof.Machine
end

section
/-! SUPPORT. The layouts of chapter 11 (R104, R169, R171, R173 to R177): each word is the sum of its fields at their weights,
since a concatenation is (`toNat_append_add`). -/

namespace Sys2Proof.Machine

theorem toNat_ofBool_eq (b : Bool) : (BitVec.ofBool b).toNat = b.toNat := by cases b <;> rfl

theorem toNat_statusWord (reason : CloseReason) (gap : Bool) {n : Nat} (h : n < 2 ^ 21) :
    (statusWord reason gap n).toNat = 2 + 4 * reason.code.toNat + 16 * gap.toNat + 256 * n := by
  simp only [statusWord, toNat_append_add, toNat_ofBool_eq, BitVec.toNat_ofNat]
  omega

theorem ResultWord.toNat_encode (r : ResultWord) :
    r.encode.toNat = r.code.toNat + 2 ^ 8 * r.result.toNat + 2 ^ 12 * r.fieldIndex.toNat + 2 ^ 24 * r.number.toNat := by
  simp only [ResultWord.encode, toNat_append_add]
  omega

/-- R174: a record's first word, by its kind code and its fields. -/
theorem toNat_recordHead (kind : BitVec 6) (fields : BitVec 24) :
    (recordHead kind fields).toNat = 3 + 4 * kind.toNat + 2 ^ 8 * fields.toNat := by
  simp only [recordHead, toNat_append_add, BitVec.toNat_ofNat]
  omega

theorem toNat_beatsCode (n : Nat) : (beatsCode n).toNat = (n - 1) % 16 := by simp [beatsCode]

theorem toNat_entryNone (e : Option Nat) : (entryNone e).toNat = e.isNone.toNat := toNat_ofBool_eq _

theorem toNat_skipField (n : Nat) : (skipField n).toNat = min 16383 n := by
  simp only [skipField, BitVec.toNat_ofNat]
  omega

/-! ## Records (R174, R175, R176) -/

theorem encode_denial (i : DenialInfo) (resp : RespSetting) : (Record.denial i resp).encode.map (·.toNat) =
    [3 + 4 * 0x01 + 2 ^ 8 * i.kind.code.toNat + 2 ^ 11 * i.access.code.toNat + 2 ^ 13 * i.privilege.code.toNat +
        2 ^ 14 * i.master.toNat + 2 ^ 17 * ((i.beats - 1) % 16) + 2 ^ 21 * (i.entry.getD 0 % 32) +
        2 ^ 26 * i.entry.isNone.toNat + 2 ^ 27 * resp.code.toNat,
      i.address.toNat, i.timestamp.toNat, 0] := by
  have hhead : ((0#4 ++ resp.code ++ entryNone i.entry ++ entryIndex i.entry ++ beatsCode i.beats ++ i.master ++
      i.privilege.code ++ i.access.code ++ i.kind.code : BitVec 24)).toNat =
      i.kind.code.toNat + 2 ^ 3 * i.access.code.toNat + 2 ^ 5 * i.privilege.code.toNat + 2 ^ 6 * i.master.toNat +
        2 ^ 9 * ((i.beats - 1) % 16) + 2 ^ 13 * (i.entry.getD 0 % 32) + 2 ^ 18 * i.entry.isNone.toNat +
        2 ^ 19 * resp.code.toNat := by
    simp only [toNat_append_add, toNat_beatsCode, toNat_entryNone, toNat_entryIndex, BitVec.toNat_ofNat]
    omega
  simp only [Record.encode, List.map_cons, List.map_nil, toNat_recordHead, hhead]
  simp
  omega

theorem encode_memfault (a : Word) (k : AccessKind) (p : Privilege) (m : BitVec 3) (ts : Word) :
    (Record.memfault a k p m ts).encode.map (·.toNat) =
      [3 + 4 * 0x02 + 2 ^ 8 * k.code.toNat + 2 ^ 10 * p.code.toNat + 2 ^ 11 * m.toNat, a.toNat, ts.toNat, 0] := by
  simp only [Record.encode, List.map_cons, List.map_nil, toNat_recordHead, toNat_append_add]
  simp
  omega

theorem encode_chainFault (i : StreamId) (c : FaultCause) (d ts : Word) : (Record.chainFault i c d ts).encode.map (·.toNat) =
    [3 + 4 * 0x03 + 2 ^ 8 * i.code.toNat + 2 ^ 9 * c.code.toNat, d.toNat, ts.toNat, 0] := by
  simp only [Record.encode, List.map_cons, List.map_nil, toNat_recordHead, toNat_append_add]
  simp
  omega

theorem encode_commit (n : Nat) (c : BitVec 8) (ts : Word) : (Record.commit n c ts).encode.map (·.toNat) =
    [3 + 4 * 0x04 + 2 ^ 8 * (n % 64) + 2 ^ 14 * c.toNat, 0, ts.toNat, 0] := by
  simp only [Record.encode, List.map_cons, List.map_nil, toNat_recordHead, toNat_append_add]
  simp
  omega

theorem encode_captureState (o n : CaptureState) (g : BitVec 8) (ts : Word) :
    (Record.captureState o n g ts).encode.map (·.toNat) =
      [3 + 4 * 0x05 + 2 ^ 8 * o.code.toNat + 2 ^ 10 * n.code.toNat + 2 ^ 12 * g.toNat, 0, ts.toNat, 0] := by
  simp only [Record.encode, List.map_cons, List.map_nil, toNat_recordHead, toNat_append_add]
  simp
  omega

theorem encode_eventMark (v ts : Word) :
    (Record.eventMark v ts).encode.map (·.toNat) = [3 + 4 * 0x06, v.toNat, ts.toNat, 0] := rfl

theorem encode_eventGap (n : Nat) (sat : Bool) (ts : Word) : (Record.eventGap n sat ts).encode.map (·.toNat) =
    [3 + 4 * 0x07 + 2 ^ 8 * (n % 2 ^ 16) + 2 ^ 24 * sat.toNat, 0, ts.toNat, 0] := by
  simp only [Record.encode, List.map_cons, List.map_nil, toNat_recordHead, toNat_append_add, toNat_ofBool_eq]
  simp
  omega

theorem encode_short (a : Word) (k : AccessKind) (p : Privilege) (m : BitVec 3) (n : Nat) (g : BitVec 8)
    (st : BitVec 16) : (Record.short a k p m n g st).encode.map (·.toNat) =
      [4 * (a.toNat / 4) + k.code.toNat,
        p.code.toNat + 2 * m.toNat + 2 ^ 4 * ((n - 1) % 16) + 2 ^ 8 * g.toNat + 2 ^ 16 * st.toNat] := by
  have haddress := a.isLt
  simp only [Record.encode, List.map_cons, List.map_nil, toNat_append_add, toNat_beatsCode, BitVec.extractLsb'_toNat]
  simp only [List.cons.injEq, and_true, Nat.shiftRight_eq_div_pow]
  omega

theorem encode_full (a : Word) (k : AccessKind) (p : Privilege) (m : BitVec 3) (n : Nat) (g : BitVec 8) (entry : Nat)
    (ts d : Word) (err : Bool) : (Record.full a k p m n g entry ts d err).encode.map (·.toNat) =
    [3 + 4 * 0x08 + 2 ^ 8 * k.code.toNat + 2 ^ 10 * p.code.toNat + 2 ^ 11 * m.toNat + 2 ^ 14 * ((n - 1) % 16) +
        2 ^ 18 * g.toNat + 2 ^ 26 * (entry % 32) + 2 ^ 31 * err.toNat,
      a.toNat, ts.toNat, d.toNat] := by
  simp only [Record.encode, List.map_cons, List.map_nil, toNat_recordHead, toNat_append_add, toNat_beatsCode,
    toNat_ofBool_eq]
  simp
  omega

theorem encode_groupEnd (g : ClosedGroup) : (Record.groupEnd g).encode.map (·.toNat) =
    [3 + 4 * 0x09 + 2 ^ 8 * g.number.toNat + 2 ^ 16 * g.reason.code.toNat + 2 ^ 18 * min 16383 g.skips,
      g.produced % 2 ^ 32, g.lost % 2 ^ 32, g.timestamp.toNat] := by
  simp only [Record.encode, List.map_cons, List.map_nil, toNat_recordHead, toNat_append_add, toNat_skipField]
  simp
  omega

theorem encode_captureMark (v : Word) (st : BitVec 16) : (Record.captureMark v st).encode.map (·.toNat) =
    [3 + 4 * 0x06 + 2 ^ 16 * st.toNat, v.toNat] := by
  simp only [Record.encode, List.map_cons, List.map_nil, toNat_recordHead, toNat_append_add]
  simp
  omega

theorem encode_captureGap (n : Nat) (sat : Bool) (ts : Word) : (Record.captureGap n sat ts).encode.map (·.toNat) =
    [3 + 4 * 0x07 + 2 ^ 8 * (n % 2 ^ 16) + 2 ^ 24 * sat.toNat, ts.toNat] := by
  simp only [Record.encode, List.map_cons, List.map_nil, toNat_recordHead, toNat_append_add, toNat_ofBool_eq]
  simp
  omega

/-! ## Report sections (R177) -/

theorem sectionWords_notices (s : State) :
    (s.sectionWords .notices).map (·.toNat) = [s.notices.raw.toNat, s.notices.enable.toNat, s.report.fault.toNat] := by
  simp only [State.sectionWords, List.map_cons, List.map_nil, toNat_append_add, toNat_ofBool_eq]
  simp

theorem sectionWords_denial (s : State) : (s.sectionWords .denial).map (·.toNat) =
    (match s.denial.latch with
      | some i =>
        [1 + 2 * i.kind.code.toNat + 2 ^ 4 * i.access.code.toNat + 2 ^ 6 * i.privilege.code.toNat + 2 ^ 7 * i.master.toNat +
            2 ^ 10 * ((i.beats - 1) % 16) + 2 ^ 14 * (i.entry.getD 0 % 32) + 2 ^ 19 * i.entry.isNone.toNat +
            2 ^ 20 * s.denial.more.toNat + 2 ^ 21 * s.denial.sticky.toNat,
          i.address.toNat, i.timestamp.toNat, 0]
      | none => [2 ^ 20 * s.denial.more.toNat + 2 ^ 21 * s.denial.sticky.toNat, 0, 0, 0]) := by
  cases h : s.denial.latch with
  | none =>
    simp only [State.sectionWords, DenialUnit.words, h, List.map_cons, List.map_nil, toNat_append_add, toNat_ofBool_eq]
    simp
    omega
  | some i =>
    simp only [State.sectionWords, DenialUnit.words, h, List.map_cons, List.map_nil, toNat_append_add, toNat_ofBool_eq,
      toNat_entryNone, toNat_entryIndex, toNat_beatsCode]
    simp
    omega

theorem sectionWords_stream (s : State) (i : StreamId) :
    (s.sectionWords i.reportSection).map (·.toNat) =
      [(s.walker i).state.code.toNat +
          2 ^ 16 * ((if i = .event then s.eventStream.fifo.length else fifoWords s.captureStream.fifo) % 2 ^ 11) +
          2 ^ 31 * (if (if i = .event then 24 else s.time.captureUrgent) ≤
            (if i = .event then s.eventStream.fifo.length else fifoWords s.captureStream.fifo) then 1 else 0),
        (s.walker i).current.toNat, (s.walker i).fillOffset % 2 ^ 32,
        (s.stream i).lost % 2 ^ 16 + 2 ^ 16 * (s.stream i).saturated.toNat] := by
  have hwords : s.sectionWords i.reportSection = s.streamWords i := by cases i <;> rfl
  rw [hwords, State.streamWords]
  simp only [List.map_cons, List.map_nil, toNat_append_add, toNat_ofBool_eq]
  cases i with
  | event =>
    simp only [State.urgent_event, toNat_decide, occupancy_event]
    simp [State.stream]
    split <;> omega
  | capture =>
    simp only [State.urgent_capture, toNat_decide, occupancy_capture]
    simp [State.stream]
    split <;> omega

theorem sectionWords_capture (s : State) : (s.sectionWords .capture).map (·.toNat) =
    [s.capture.state.code.toNat + 2 ^ 8 * s.capture.groupNumber.toNat + 2 ^ 16 * s.capture.trigger.kind.code.toNat +
        2 ^ 18 * (s.capture.trigger.entry % 32) + 2 ^ 23 * s.capture.trigger.oneShot.toNat,
      (match s.capture.openGroup with
        | some g => g.produced
        | none => 0) % 2 ^ 32,
      s.capture.trigger.quiet % 2 ^ 16, s.capture.trigger.limit % 2 ^ 13] := by
  simp only [State.sectionWords, CaptureUnit.words, List.map_cons, List.map_nil, toNat_append_add, toNat_ofBool_eq]
  cases s.capture.openGroup with
  | none =>
    simp
    omega
  | some g =>
    simp
    omega

theorem sectionWords_policy (s : State) : (s.sectionWords .policy).map (·.toNat) =
    [s.policy.active.entries.length % 64 + 2 ^ 8 * s.policy.staged.code.toNat + 2 ^ 16 * s.policy.commitCount.toNat,
      s.policy.active.width % 64 + 2 ^ 8 * s.policy.active.fold.code.toNat] := by
  simp only [State.sectionWords, PolicyUnit.words, List.map_cons, List.map_nil, toNat_append_add]
  simp
  omega

/-- Settles O50: the codes by their tables, each word by its lemma above. -/
theorem layoutsPutFieldsAtTheirBits : Obligations.LayoutsPutFieldsAtTheirBits :=
  ⟨⟨rfl, rfl, rfl, rfl, rfl, rfl, rfl, rfl, rfl, rfl, rfl, rfl, rfl, fun _ => rfl, rfl⟩,
    fun reason gap _ hn => toNat_statusWord reason gap hn, ResultWord.toNat_encode, Record.length_encode, encode_denial,
    encode_memfault, encode_chainFault, encode_commit, encode_captureState, encode_eventMark, encode_eventGap, encode_short,
    encode_full, encode_groupEnd, encode_captureMark, encode_captureGap, fun s =>
      ⟨rfl, sectionWords_notices s, sectionWords_denial s, sectionWords_stream s, sectionWords_capture s,
        sectionWords_policy s, rfl⟩⟩

end Sys2Proof.Machine
end

section
/-! SUPPORT. What a grant issues (R30, R49, R95, R122, R148, R160): the transaction of each requester, and all that its grant
changes. -/

namespace Sys2Proof.Machine

/-! ## The event -/

/-- R122: a grant at an open port, where the judgement that ends the event finds nothing. -/
theorem exec_memoryGrant_of_settled {s : State} {w : Requester} (hlive : s.resetAsserted = false)
    (hdrain : s.arbiter.drain = 0) (hroom : s.arbiter.issued.length < 8) (hw : s.winner = some w)
    (hsettled : (State.grant w s).settled = true) : exec .memoryGrant s = .next (State.grant w s) := by
  rw [exec_memoryGrant_of_winner hw, event_of_enabled (s.grantOpen_iff.2 ⟨hlive, hdrain, hroom⟩),
    State.settle_of_settled hsettled]

/-! ## PASS (R26, R30) -/

theorem State.grantPass_of_split {s : State} {before after : List QueueEntry} {e : QueueEntry}
    (hqueue : s.queue = before ++ e :: after) (hbefore : ∀ x ∈ before, x.state ≠ .unsent) (he : e.state = .unsent) :
    s.grantPass = State.issue { s with queue := before ++ { e with state := .atMemory } :: after } .pass e.request := by
  have hsent : ∀ x ∈ before, x.isUnsent = false := fun x hx => by simpa [QueueEntry.isUnsent] using hbefore x hx
  have hunsent : e.isUnsent = true := by simpa [QueueEntry.isUnsent] using he
  have hfind : s.queue.find? QueueEntry.isUnsent = some e :=
    List.find?_eq_some_iff_append.2 ⟨hunsent, before, after, hqueue, fun x hx => by simp [hsent x hx]⟩
  unfold State.grantPass
  rw [hfind]
  dsimp only
  rw [hqueue, updateFirst_split _ _ _ _ _ hsent hunsent]

/-- Settles O12: the queue's split names the oldest UNSENT transaction. -/
theorem passGrantForwardsTheOldestUnsent : Obligations.PassGrantForwardsTheOldestUnsent := by
  intro s before after e hlive hdrain hroom hsettled hw hqueue hbefore he
  have hgrant : State.grant .pass s = { s with
      queue := before ++ { e with state := .atMemory } :: after
      memoryPort := some e.request
      arbiter := { s.arbiter with
        issued := s.arbiter.issued ++
          [{ requester := .pass, isWrite := decide (e.request.kind = .write), beats := e.request.beats, voided := false }]
        fairness := s.fairnessAfter .pass } } := by
    simp only [State.grant, State.grantTo, State.grantPass_of_split hqueue hbefore he]
    rfl
  refine ⟨State.grant .pass s, ?_, ?_⟩
  · refine exec_memoryGrant_of_settled hlive hdrain hroom hw ?_
    rw [hgrant]
    exact hsettled
  · rw [hgrant]

/-! ## REPORT (R124, R158, R160) -/

theorem Section.index_all : ∀ (j : Nat) (h : j < Section.all.length), Section.all[j].index = j := by decide

theorem Section.all_getElem? {n : Nat} (h : n < 8) : ∃ c, Section.all[n]? = some c ∧ c.index = n :=
  ⟨Section.all[n], List.getElem?_eq_getElem h, Section.index_all n h⟩

/-- R160: the lowest dirty section. -/
theorem State.find?_isDirty {s : State} {c : Section} (h : s.isDirty c = true)
    (hlower : ∀ j, j < c.index → s.report.dirty.getLsbD j = false) : Section.all.find? s.isDirty = some c := by
  have hbound : c.index < Section.all.length := by cases c <;> decide
  have hself : Section.all[c.index] = c := by cases c <;> rfl
  refine List.find?_eq_some_iff_getElem.2 ⟨h, c.index, hbound, hself, fun j hj => ?_⟩
  have hindex := Section.index_all j (Nat.lt_trans hj hbound)
  rw [State.isDirty, hindex, hlower j hj, Bool.not_false]

theorem Section.firstWord_eq (c : Section) : c.firstWord = [8, 9, 12, 16, 20, 24, 28, 30][c.index]?.getD 0 := by
  cases c <;> rfl

theorem State.length_sectionWords (s : State) (c : Section) :
    (s.sectionWords c).length = [1, 3, 4, 4, 4, 4, 2, 1][c.index]?.getD 0 := by
  cases c with
  | denial =>
    simp only [State.sectionWords, DenialUnit.words]
    split <;> rfl
  | _ => rfl

theorem Section.eq_notices_iff (c : Section) : c = .notices ↔ c.index = 1 := by cases c <;> simp [Section.index]

theorem anchorAddress_eq (a : BitVec 4) (i : Nat) :
    anchorAddress a i = BitVec.ofNat 32 (a.toNat * 0x10000000 + 0xFF00 + 4 * i) := by
  rw [anchorAddress, anchorBase, ← BitVec.ofNat_add]

/-- R122: the run count after an internal grant. -/
theorem State.fairnessAfter_of_internal (s : State) {w : Requester} (h : w ≠ .pass) : s.fairnessAfter w = 0 := by
  rw [State.fairnessAfter_eq, if_neg (fun hw => h hw.1)]

/-- Settles O13: the section is the one of the lowest dirty bit. -/
theorem reportGrantWritesTheLowestDirtySection : Obligations.ReportGrantWritesTheLowestDirtySection := by
  intro s n hlive hdrain hroom hsettled hw hn hdirty hlower
  obtain ⟨c, hc, rfl⟩ := Section.all_getElem? hn
  have hfind := State.find?_isDirty (s := s) hdirty hlower
  have hgrant : State.grant .report s = { s with
      report := { s.report with
        dirty := s.report.dirty &&& ~~~(1#8 <<< c.index)
        inFlight := some { section_ := c, raw := if c.index = 1 then some s.notices.raw else none } }
      memoryPort := some
        { address := BitVec.ofNat 32 (s.anchorSel.toNat * 0x10000000 + 0xFF00 + 4 * c.firstWord), kind := .write
          privilege := .supervisor, master := 0, beats := (s.sectionWords c).length
          writeData := (s.sectionWords c).map fun w => { data := w, enables := 0b1111 } }
      arbiter := { s.arbiter with
        issued := s.arbiter.issued ++
          [{ requester := .report, isWrite := true, beats := (s.sectionWords c).length, voided := false }]
        fairness := 0 } } := by
    simp only [State.grant, State.grantTo, State.grantReport, hfind, anchorAddress_eq, Section.eq_notices_iff,
      s.fairnessAfter_of_internal (w := .report) (by simp)]
    rfl
  refine ⟨State.grant .report s, c, ?_, hc, s.length_sectionWords c, ?_⟩
  · refine exec_memoryGrant_of_settled hlive hdrain hroom hw ?_
    rw [hgrant]
    exact hsettled
  · rw [hgrant, Section.firstWord_eq]

/-! ## COMMAND (R49, R148) -/

theorem State.grantCommand_of_loader {s : State} {l : Loader} (h : s.command.loader = some l) :
    s.grantCommand =
      State.issue { s with command := { s.command with loader := some { l with inFlight := true } } } .command l.nextRead := by
  simp only [State.grantCommand, h]

theorem State.grantCommand_of_stats {s : State} {g : StatsEngine} (hloader : s.command.loader = none)
    (h : s.command.stats = some g) :
    s.grantCommand =
      State.issue { s with command := { s.command with stats := some { g with granted := g.granted + 1 } } } .command
        g.nextBurst := by
  simp only [State.grantCommand, hloader, h]

theorem extractLsb'_low (hi lo : BitVec 16) : (hi ++ lo).extractLsb' 0 16 = lo := by
  have := lo.isLt
  refine BitVec.eq_of_toNat_eq ?_
  rw [BitVec.extractLsb'_toNat, toNat_append_add, Nat.shiftRight_zero]
  omega

theorem extractLsb'_high (hi lo : BitVec 16) : (hi ++ lo).extractLsb' 16 16 = hi := by
  have := hi.isLt
  have := lo.isLt
  refine BitVec.eq_of_toNat_eq ?_
  rw [BitVec.extractLsb'_toNat, toNat_append_add, Nat.shiftRight_eq_div_pow]
  omega

/-- R49, R179: word j of the first burst holds slots 2j and 2j + 1. -/
theorem StatsEngine.firstBurst_getElem? (g : StatsEngine) {j : Nat} (hj : j < 16) :
    ∃ w : Word, g.firstBurst[j]? = some w ∧ some (w.extractLsb' 0 16) = g.slots[2 * j]?.map (BitVec.ofNat 16) ∧
      some (w.extractLsb' 16 16) = g.slots[2 * j + 1]?.map (BitVec.ofNat 16) := by
  refine ⟨_, by simp [StatsEngine.firstBurst, hj]; rfl, ?_, ?_⟩
  · rw [extractLsb'_low]
    have hslot : 2 * j < 32 := by omega
    simp [hslot]
  · rw [extractLsb'_high]
    have hslot : 2 * j + 1 < 32 := by omega
    simp [hslot]

/-- Settles O15: by the owner at work, the loader or the statistics engine. -/
theorem commandGrantIssuesImageReadOrStatsBurst : Obligations.CommandGrantIssuesImageReadOrStatsBurst := by
  intro s hlive hdrain hroom hsettled hw
  have hfair : s.fairnessAfter .command = 0 := s.fairnessAfter_of_internal (by simp)
  have hstands : s.command.stands = true := State.stands_of_winner hw
  cases hloader : s.command.loader with
  | some l =>
    have hgrant : State.grant .command s = { s with
        command := { s.command with loader := some { l with inFlight := true } }
        memoryPort := some l.nextRead
        arbiter := { s.arbiter with
          issued := s.arbiter.issued ++
            [{ requester := .command, isWrite := decide (l.nextRead.kind = .write), beats := l.nextRead.beats, voided := false }]
          fairness := 0 } } := by
      simp only [State.grant, State.grantTo, State.grantCommand_of_loader hloader, hfair]
      rfl
    have hread : l.nextRead.kind = .read ∧ l.nextRead.privilege = .supervisor ∧ l.nextRead.master = 0 ∧
        l.nextRead.writeData = [] := by
      unfold Loader.nextRead
      split <;> exact ⟨rfl, rfl, rfl, rfl⟩
    obtain ⟨hkind, hprivilege, hmaster, hdata⟩ := hread
    refine ⟨State.grant .command s, l.nextRead, ?_, ?_, hprivilege, hmaster, ?_, ?_, ?_, ?_⟩
    · refine exec_memoryGrant_of_settled hlive hdrain hroom hw ?_
      rw [hgrant]
      exact hsettled
    · rw [hgrant]
    · rw [hgrant]
    · rw [hgrant]
    · rintro l' ⟨rfl⟩
      refine ⟨by rw [hgrant], hkind, hdata, fun hpart => ?_, fun part hpart => ?_⟩
      · simp only [Loader.nextRead, hpart]
        exact ⟨rfl, rfl⟩
      · simp only [Loader.nextRead, hpart]
        exact ⟨rfl, rfl⟩
    · rintro g ⟨⟩
  | none =>
    obtain ⟨g, hg⟩ : ∃ g, s.command.stats = some g := by
      cases hstats : s.command.stats with
      | some g => exact ⟨g, rfl⟩
      | none => simp [CommandUnit.stands, hloader, hstats] at hstands
    have hgrant : State.grant .command s = { s with
        command := { s.command with stats := some { g with granted := g.granted + 1 } }
        memoryPort := some g.nextBurst
        arbiter := { s.arbiter with
          issued := s.arbiter.issued ++
            [{ requester := .command, isWrite := decide (g.nextBurst.kind = .write), beats := g.nextBurst.beats, voided := false }]
          fairness := 0 } } := by
      simp only [State.grant, State.grantTo, State.grantCommand_of_stats hloader hg, hfair]
      rfl
    have hwrite : g.nextBurst.kind = .write ∧ g.nextBurst.privilege = .supervisor ∧ g.nextBurst.master = 0 := by
      unfold StatsEngine.nextBurst
      split <;> exact ⟨rfl, rfl, rfl⟩
    obtain ⟨hkind, hprivilege, hmaster⟩ := hwrite
    refine ⟨State.grant .command s, g.nextBurst, ?_, ?_, hprivilege, hmaster, ?_, ?_, ?_, ?_⟩
    · refine exec_memoryGrant_of_settled hlive hdrain hroom hw ?_
      rw [hgrant]
      exact hsettled
    · rw [hgrant]
    · rw [hgrant]
    · rw [hgrant]
    · rintro l ⟨⟩
    · intro g' _ hg'
      obtain rfl : g = g' := Option.some.inj (hg.symm.trans hg')
      refine ⟨by rw [hgrant], hkind, fun hfirst => ?_, fun hsecond => ?_⟩
      · rw [StatsEngine.nextBurst, if_pos hfirst]
        refine ⟨rfl, by simp [internalWrite, StatsEngine.firstBurst], fun j hj => ?_⟩
        obtain ⟨w, hword, hlow, hhigh⟩ := g.firstBurst_getElem? hj
        exact ⟨{ data := w, enables := 0b1111 }, by simp [internalWrite, hword], rfl, hlow, hhigh⟩
      · rw [StatsEngine.nextBurst, if_neg (by omega)]
        refine ⟨rfl, rfl, _, rfl, rfl, ?_, ?_, ?_⟩
        · exact extractLsb'_low (BitVec.ofBool g.saturated ++ 0#15) _
        · change _ = 0#15
          refine BitVec.eq_of_toNat_eq ?_
          rw [BitVec.extractLsb'_toNat, toNat_append_add, toNat_append_add, Nat.shiftRight_eq_div_pow]
          have := (BitVec.ofNat 16 g.default).isLt
          simp only [BitVec.toNat_ofNat] at this ⊢
          omega
        · simp only [BitVec.getLsbD_append]
          simp

end Sys2Proof.Machine
end

section
/-! SUPPORT. What a grant to a walker issues (R95, R97, R100, R104, R112): its descriptor fetch, its record burst or its status
write, by the walker's state. -/

namespace Sys2Proof.Machine

/-! ## The walker's transaction -/

/-- The transaction that a walker's standing request issues: the stream it leaves, what goes in flight, and the transaction at
the port. -/
inductive WalkerGrant (s : State) (i : StreamId) : RecordStream → WalkerTx → Request → Prop where
  | fetch (hstate : (s.walker i).state = .fetching) :
      WalkerGrant s i (s.stream i) .fetch (internalRead (s.walker i).current 4)
  | burst (r : Record) (rest : List Record) (hstate : (s.walker i).state = .filling)
      (hfifo : (s.stream i).fifo = r :: rest) (hfits : 4 * r.words ≤ (s.walker i).remaining) :
      WalkerGrant s i { s.stream i with fifo := (s.stream i).fifo.drop (s.burstRecords i).length }
        (.burst (s.burstRecords i))
        (internalWrite (s.walker i).burstAddress ((s.burstRecords i).map Record.encode).flatten)
  | status (hstate : (s.walker i).state = .closing ∨
        ((s.walker i).state = .aborting ∧ (s.walker i).closeReason.isSome = true)) :
      WalkerGrant s i (s.stream i) .status (internalWrite ((s.walker i).current + 12) [(s.walker i).statusData])

@[simp] theorem State.setStream_self (s : State) (i : StreamId) : s.setStream i (s.stream i) = s := by cases i <;> rfl

/-- R95: a walker's grant issues the request that stands. -/
theorem State.grantWalker_eq {s : State} {i : StreamId} (h : s.walkerStands i = true) :
    ∃ x tx q, WalkerGrant s i x tx q ∧ s.grantWalker i = ((s.setStream i x).setInFlight i tx).issue i.requester q := by
  unfold State.grantWalker
  dsimp only
  by_cases hfetch : (s.walker i).wantsFetch = true
  · rw [if_pos hfetch]
    refine ⟨_, _, _, .fetch ?_, by rw [State.setStream_self]⟩
    simp only [Walker.wantsFetch, Bool.and_eq_true, decide_eq_true_eq] at hfetch
    exact hfetch.1
  rw [if_neg hfetch]
  by_cases hburst : (s.walker i).wantsBurst (s.stream i).fifo = true
  · rw [if_pos hburst]
    simp only [Walker.wantsBurst, Walker.atRest, Bool.and_eq_true, decide_eq_true_eq] at hburst
    obtain ⟨⟨hstate, -⟩, hhead⟩ := hburst
    cases hfifo : (s.stream i).fifo with
    | nil => simp [hfifo] at hhead
    | cons r rest =>
      rw [hfifo] at hhead
      exact ⟨_, _, _, .burst r rest hstate hfifo (by simpa [Walker.fits] using hhead), rfl⟩
  rw [if_neg hburst]
  refine ⟨_, _, _, .status ?_, by rw [State.setStream_self]⟩
  simp only [State.walkerStands, hfetch, hburst, Bool.false_or, Walker.wantsStatus, Bool.and_eq_true, Bool.or_eq_true,
    decide_eq_true_eq] at h
  obtain ⟨-, hstate | hstate⟩ := h
  · exact .inl hstate
  · exact .inr hstate

/-- A walker with a transaction in flight is not at rest, and no close or flush condition holds. -/
theorem Walker.settled_of_inFlight {w : Walker} (h : w.inFlight.isSome = true) (fifo : List Record) (linger : Nat) :
    w.settled fifo linger = true := by
  have hbusy : w.inFlight.isNone = false := by simpa using h
  simp [Walker.settled, Walker.atRest, hbusy]

/-! ## What each transaction is -/

/-- R84, R100: the records of a burst, from the FIFO's head, as many as fit. -/
theorem State.burstRecords_spec {s : State} {i : StreamId} {r : Record} {rest : List Record} {c : DescriptorCopy}
    (hfifo : (s.stream i).fifo = r :: rest) (hfits : 4 * r.words ≤ (s.walker i).remaining)
    (hcopy : (s.walker i).copy = some c) (hfill : (s.walker i).fillOffset ≤ c.length) :
    s.burstRecords i ≠ [] ∧
      (s.stream i).fifo = s.burstRecords i ++ (s.stream i).fifo.drop (s.burstRecords i).length ∧
      fifoWords (s.burstRecords i) ≤ 16 ∧ (s.walker i).fillOffset + 4 * fifoWords (s.burstRecords i) ≤ c.length ∧
      ∀ r' rest', (s.stream i).fifo.drop (s.burstRecords i).length = r' :: rest' →
        16 < fifoWords (s.burstRecords i) + r'.words ∨
          c.length < (s.walker i).fillOffset + 4 * (fifoWords (s.burstRecords i) + r'.words) := by
  have hremaining : (s.walker i).remaining = c.length - (s.walker i).fillOffset := by simp [Walker.remaining, hcopy]
  obtain ⟨hwords, hspace⟩ := s.fifoWords_burstRecords_le i
  refine ⟨?_, (recordsThatFit_append_drop _ _).symm, hwords, by omega, fun r' rest' hnext => ?_⟩
  · rw [State.burstRecords, hfifo]
    refine recordsThatFit_ne_nil _ _ _ ?_
    have := r.words_cases
    simp only [Config.burstWords]
    omega
  · have hmaximal := recordsThatFit_maximal _ _ _ _ hnext
    rw [← State.burstRecords] at hmaximal
    simp only [Config.burstWords] at hmaximal
    omega

/-- R104, R173: a walker that closes or has closed has a reason and a buffer of at most 1,048,576 bytes. -/
theorem Walker.bufferLaw.status {w : Walker} (hw : w.bufferLaw)
    (hstate : w.state = .closing ∨ (w.state = .aborting ∧ w.closeReason.isSome = true)) :
    ∃ reason, w.closeReason = some reason ∧ w.fillOffset < 2 ^ 21 := by
  obtain ⟨hinside, -, -, hclosing, hreason, -⟩ := hw
  have hsome : w.closeReason.isSome = true := by
    obtain h | ⟨-, h⟩ := hstate
    · exact (hclosing h).1
    · exact h
  obtain ⟨-, hcopy⟩ := hreason hsome
  obtain ⟨reason, hr⟩ := Option.isSome_iff_exists.1 hsome
  obtain ⟨c, hc⟩ := Option.isSome_iff_exists.1 hcopy
  obtain ⟨-, hmax, -, hfill, -⟩ := hinside c hc
  exact ⟨reason, hr, by omega⟩

/-- Settles O14: the frame of a grant is the same for the three transactions; each is `WalkerGrant`'s for its state. -/
theorem walkerGrantIssuesItsTransaction : Obligations.WalkerGrantIssuesItsTransaction := by
  intro s i hlive hdrain hroom hw hbuffers hsettled
  have hstands : s.walkerStands i = true := by
    have := State.stands_of_winner hw
    cases i <;> exact this
  obtain ⟨x, tx, q, hgranted, hissue⟩ := State.grantWalker_eq hstands
  have hfair : s.fairnessAfter i.requester = 0 := s.fairnessAfter_of_internal (by cases i <;> simp [StreamId.requester])
  have hto : s.grantTo i.requester = s.grantWalker i := by cases i <;> rfl
  let t := State.grant i.requester s
  have hgrant : t = { ((s.setStream i x).setInFlight i tx).issue i.requester q with
      arbiter := { (((s.setStream i x).setInFlight i tx).issue i.requester q).arbiter with fairness := 0 } } := by
    simp only [t, State.grant, hto, hissue, hfair]
  have harbiter : (((s.setStream i x).setInFlight i tx).issue i.requester q).arbiter =
      { s.arbiter with issued := s.arbiter.issued ++
          [{ requester := i.requester, isWrite := decide (q.kind = .write), beats := q.beats, voided := false }] } := by
    cases i <;> rfl
  have hself : t.walker i = { s.walker i with inFlight := some tx } ∧ t.stream i = x := by
    rw [hgrant]
    cases i <;> exact ⟨rfl, rfl⟩
  have hother : ∀ j, j ≠ i → t.walker j = s.walker j ∧ t.stream j = s.stream j := by
    intro j hj
    rw [hgrant]
    match i, j, hj with
    | .event, .event, hj => exact absurd rfl hj
    | .event, .capture, _ => exact ⟨rfl, rfl⟩
    | .capture, .event, _ => exact ⟨rfl, rfl⟩
    | .capture, .capture, hj => exact absurd rfl hj
  obtain ⟨hwalker, hstream⟩ := hself
  have hstays : t.settled = true := by
    rw [State.settled_iff]
    intro j
    by_cases hj : j = i
    · subst hj
      rw [hwalker]
      exact Walker.settled_of_inFlight rfl _ _
    · obtain ⟨hwj, hsj⟩ := hother j hj
      have htime : t.time = s.time := by
        rw [hgrant]
        cases i <;> rfl
      rw [hwj, hsj, State.lingerSetting_congr htime]
      exact (State.settled_iff s).1 hsettled j
  refine ⟨t, q, exec_memoryGrant_of_settled hlive hdrain hroom hw hstays, ?_, ?_, ?_, hother, ?_, ?_, ?_, ?_⟩
  · rw [hgrant]
    rfl
  · rw [hgrant, harbiter]
  · rw [hgrant]
    cases i <;> rfl
  · intro hstate
    rw [hstream]
    cases hgranted with
    | burst r rest hfilling _ _ => exact absurd hfilling hstate
    | fetch _ => rfl
    | status _ => rfl
  · intro hstate
    rw [hwalker]
    cases hgranted with
    | fetch _ => exact ⟨rfl, rfl⟩
    | burst r rest hfilling _ _ => simp [hfilling] at hstate
    | status hclosing => simp [hstate] at hclosing
  · intro hstate
    rw [hwalker, hstream]
    cases hgranted with
    | fetch hfetching => simp [hfetching] at hstate
    | status hclosing => simp [hstate] at hclosing
    | burst r rest _ hfifo hfits =>
      obtain ⟨hinside, -, hcopy, -⟩ := hbuffers.walker i
      obtain ⟨c, hc⟩ := Option.isSome_iff_exists.1 (hcopy (.inl hstate))
      obtain ⟨-, -, -, hfill, -⟩ := hinside c hc
      obtain ⟨hne, hsplit, hwords, hspace, hmaximal⟩ := State.burstRecords_spec hfifo hfits hc hfill
      refine ⟨c, s.burstRecords i, hc, hne, hsplit, rfl, rfl, hwords, hspace, hmaximal, ?_⟩
      simp only [internalWrite, Walker.burstAddress, hc, length_flatten_encode]
      rfl
  · intro hstate
    rw [hwalker]
    cases hgranted with
    | fetch hfetching => simp [hfetching] at hstate
    | burst r rest hfilling _ _ => simp [hfilling] at hstate
    | status hclosing =>
      obtain ⟨reason, hreason, hfill⟩ := (hbuffers.walker i).status hclosing
      refine ⟨rfl, reason, (s.walker i).statusData, hreason, ?_, rfl⟩
      rw [Walker.statusData, toNat_statusWord _ _ hfill, hreason]
      rfl

end Sys2Proof.Machine
end

section
/-! SUPPORT. What the judgement that ends an event makes of each walker (R101, R103, R108), as a function of the walker, its FIFO
and its linger setting, and what it leaves of the rest. -/

namespace Sys2Proof.Machine

/-! ## One walker's judgement -/

/-- R108: a flush over an empty buffer at rest ends with no close. -/
def Walker.flushEnds (w : Walker) : Bool := w.atRest && w.flushDone && decide (w.fillOffset = 0)

/-- The walker after that end. -/
def Walker.flushed (w : Walker) : Walker := if w.flushEnds then { w with flushCount := none } else w

/-- R101, R103, R108: the walker that closes its buffer. -/
def Walker.closedBy (w : Walker) (reason : CloseReason) : Walker := { w with state := .closing, closeReason := some reason }

/-- The walker after its close conditions are judged; `lingerFirst` is the free choice where FULL and LINGER both hold. -/
def Walker.judged (w : Walker) (fifo : List Record) (setting : Nat) (lingerFirst : Bool) : Walker :=
  if w.atRest then
    if w.flushDone then w.closedBy (if w.fullCondition fifo then .full else .flush)
    else if w.fullCondition fifo then w.closedBy (if w.lingerCondition setting && lingerFirst then .linger else .full)
    else if w.lingerCondition setting then w.closedBy .linger
    else w
  else w

theorem State.settleFlush_eq (s : State) (i : StreamId) :
    s.settleFlush i = if (s.walker i).flushEnds then s.endFlush i .done else s := rfl

theorem State.walker_settleFlush (s : State) (i : StreamId) : (s.settleFlush i).walker i = (s.walker i).flushed := by
  rw [State.settleFlush_eq, Walker.flushed]
  split
  · rw [State.walker_endFlush, if_pos rfl]
  · rfl

theorem State.walker_settleClose (s : State) (i : StreamId) (b : Bool) :
    (s.settleClose i b).walker i = (s.walker i).judged (s.stream i).fifo (s.lingerSetting i) b := by
  have hclose (reason : CloseReason) : (s.closeBuffer i reason).walker i = (s.walker i).closedBy reason := by
    simp [State.closeBuffer, Walker.closedBy]
  unfold State.settleClose Walker.judged
  dsimp only
  cases hrest : (s.walker i).atRest
  · rfl
  · simp only [Bool.not_true, Bool.false_eq_true, if_false, if_true]
    split
    · exact hclose _
    · split
      · exact hclose _
      · split
        · exact hclose _
        · rfl

/-- The free choice is used only where both conditions hold; it is the choice of some count. -/
theorem State.walker_settleWalker (s : State) (i : StreamId) :
    ∃ b, (s.settleWalker i).walker i = ((s.walker i).flushed).judged (s.stream i).fifo (s.lingerSetting i) b := by
  have hstream : (s.settleFlush i).stream i = s.stream i := by cases i <;> simp [State.stream]
  have hlinger : (s.settleFlush i).lingerSetting i = s.lingerSetting i := State.lingerSetting_congr (by simp) i
  have hdrawn : ((s.settleFlush i).drawn 1).lingerSetting i = s.lingerSetting i := State.lingerSetting_congr (by simp) i
  unfold State.settleWalker
  dsimp only
  split
  · exact ⟨_, by rw [State.walker_settleClose, State.walker_drawn, State.stream_drawn, hdrawn, hstream,
      State.walker_settleFlush]⟩
  · exact ⟨_, by rw [State.walker_settleClose, hlinger, hstream, State.walker_settleFlush]⟩

/-- Each walker after the judgement of both. -/
theorem State.walker_settle (s : State) (i : StreamId) :
    ∃ b, s.settle.walker i = ((s.walker i).flushed).judged (s.stream i).fifo (s.lingerSetting i) b := by
  unfold State.settle
  cases i with
  | event =>
    rw [State.settleWalker_other _ (by simp)]
    exact s.walker_settleWalker .event
  | capture =>
    obtain ⟨b, hb⟩ := (s.settleWalker .event).walker_settleWalker .capture
    rw [State.settleWalker_other s (i := .event) (by simp), State.stream_settleWalker, State.lingerSetting_settleWalker] at hb
    exact ⟨b, hb⟩

/-! ## Cases of a judgement -/

theorem Walker.flushEnds_of_settled {w : Walker} {fifo : List Record} {setting : Nat} (h : w.settled fifo setting = true) :
    w.flushEnds = false := by
  simp only [Walker.settled, Bool.not_eq_true', Bool.and_eq_false_iff, Bool.or_eq_false_iff] at h
  obtain h | ⟨⟨h, -⟩, -⟩ := h
  · simp [Walker.flushEnds, h]
  · simp [Walker.flushEnds, h]

theorem Walker.flushed_of_not_flushEnds {w : Walker} (h : w.flushEnds = false) : w.flushed = w := by
  rw [Walker.flushed, h]
  rfl

theorem Walker.flushEnds_of_not_atRest {w : Walker} (h : w.atRest = false) : w.flushEnds = false := by
  simp [Walker.flushEnds, h]

theorem Walker.flushEnds_of_filled {w : Walker} (h : 0 < w.fillOffset) : w.flushEnds = false := by
  simp only [Walker.flushEnds, Bool.and_eq_false_iff, decide_eq_false_iff_not]
  exact .inr (by omega)

theorem Walker.flushEnds_of_not_flushDone {w : Walker} (h : w.flushDone = false) : w.flushEnds = false := by
  simp [Walker.flushEnds, h]

theorem Walker.judged_of_settled {w : Walker} {fifo : List Record} {setting : Nat} (h : w.settled fifo setting = true)
    (b : Bool) : w.judged fifo setting b = w := by
  simp only [Walker.settled, Bool.not_eq_true', Bool.and_eq_false_iff, Bool.or_eq_false_iff] at h
  obtain h | ⟨⟨hflush, hfull⟩, hlinger⟩ := h
  · simp [Walker.judged, h]
  · simp [Walker.judged, hflush, hfull, hlinger]

theorem Walker.settled_of_not_atRest {w : Walker} (h : w.atRest = false) (fifo : List Record) (setting : Nat) :
    w.settled fifo setting = true := by
  simp [Walker.settled, h]

theorem Walker.atRest_iff (w : Walker) : w.atRest = true ↔ w.state = .filling ∧ w.inFlight = none := by
  simp [Walker.atRest]

theorem Walker.atRest_of_state_ne {w : Walker} (h : w.state ≠ .filling) : w.atRest = false := by
  simp [Walker.atRest, h]

/-- Everything of a walker but its state, close reason and flush count stays through a judgement. -/
theorem Walker.judged_flushed_keeps (w : Walker) (fifo : List Record) (setting : Nat) (b : Bool) :
    (w.flushed.judged fifo setting b).current = w.current ∧ (w.flushed.judged fifo setting b).copy = w.copy ∧
      (w.flushed.judged fifo setting b).fillOffset = w.fillOffset ∧
      (w.flushed.judged fifo setting b).gapPresent = w.gapPresent ∧
      (w.flushed.judged fifo setting b).lingerAge = w.lingerAge ∧
      (w.flushed.judged fifo setting b).inFlight = w.inFlight ∧
      (w.flushed.judged fifo setting b).abortError = w.abortError := by
  have hjudged (v : Walker) : (v.judged fifo setting b).current = v.current ∧ (v.judged fifo setting b).copy = v.copy ∧
      (v.judged fifo setting b).fillOffset = v.fillOffset ∧ (v.judged fifo setting b).gapPresent = v.gapPresent ∧
      (v.judged fifo setting b).lingerAge = v.lingerAge ∧ (v.judged fifo setting b).inFlight = v.inFlight ∧
      (v.judged fifo setting b).abortError = v.abortError := by
    unfold Walker.judged Walker.closedBy
    repeat' split
    all_goals exact ⟨rfl, rfl, rfl, rfl, rfl, rfl, rfl⟩
  unfold Walker.flushed
  split
  · exact hjudged _
  · exact hjudged _

theorem State.walker_settle_keeps (s : State) (i : StreamId) :
    (s.settle.walker i).current = (s.walker i).current ∧ (s.settle.walker i).copy = (s.walker i).copy ∧
      (s.settle.walker i).fillOffset = (s.walker i).fillOffset ∧
      (s.settle.walker i).gapPresent = (s.walker i).gapPresent ∧
      (s.settle.walker i).lingerAge = (s.walker i).lingerAge ∧ (s.settle.walker i).inFlight = (s.walker i).inFlight ∧
      (s.settle.walker i).abortError = (s.walker i).abortError := by
  obtain ⟨b, hb⟩ := s.walker_settle i
  rw [hb]
  exact Walker.judged_flushed_keeps ..

/-- A walker for which no condition holds stays. -/
theorem State.walker_settle_of_settled {s : State} {i : StreamId}
    (h : (s.walker i).settled (s.stream i).fifo (s.lingerSetting i) = true) : s.settle.walker i = s.walker i := by
  obtain ⟨b, hb⟩ := s.walker_settle i
  rw [hb, Walker.flushed_of_not_flushEnds (Walker.flushEnds_of_settled h), Walker.judged_of_settled h]

theorem State.walker_settle_of_not_atRest {s : State} {i : StreamId} (h : (s.walker i).atRest = false) :
    s.settle.walker i = s.walker i :=
  State.walker_settle_of_settled (Walker.settled_of_not_atRest h _ _)

/-! ## The rest of the state -/

/-- R140: an idle unit takes no completion. -/
theorem State.finish_of_idle {s : State} (h : s.command.running = none) (who : Option StreamId) (r : Result) (f : Nat) :
    s.finish who r f = s := by
  simp only [State.finish, h]

/-- No flush end reaches the command unit: it is idle, or the walker's flush goes on. -/
def State.flushQuiet (s : State) (i : StreamId) : Prop := s.command.running = none ∨ (s.walker i).flushEnds = false

theorem State.settleFlush_quiet {s : State} {i : StreamId} (h : s.flushQuiet i) :
    (s.settleFlush i).command = s.command ∧ (s.settleFlush i).notices = s.notices := by
  rw [State.settleFlush_eq]
  obtain hidle | hgoes := h
  · split
    · rw [State.endFlush, State.finish_of_idle (by simpa using hidle)]
      simp
    · exact ⟨rfl, rfl⟩
  · rw [hgoes]
    exact ⟨rfl, rfl⟩

theorem State.settleWalker_quiet {s : State} {i : StreamId} (h : s.flushQuiet i) :
    (s.settleWalker i).command = s.command ∧ (s.settleWalker i).notices = s.notices := by
  obtain ⟨hcommand, hnotices⟩ := State.settleFlush_quiet h
  have hclose (u : State) (b : Bool) : (u.settleClose i b).command = u.command ∧ (u.settleClose i b).notices = u.notices := by
    unfold State.settleClose State.closeBuffer State.moveWalker
    dsimp only
    repeat' split
    all_goals simp
  unfold State.settleWalker
  dsimp only
  split
  · rw [(hclose _ _).1, (hclose _ _).2]
    exact ⟨hcommand, hnotices⟩
  · rw [(hclose _ _).1, (hclose _ _).2]
    exact ⟨hcommand, hnotices⟩

/-- A judgement in which no flush ends under a running command leaves the command unit and the notices. -/
theorem State.settle_quiet {s : State} (h : ∀ i, s.flushQuiet i) :
    s.settle.command = s.command ∧ s.settle.notices = s.notices := by
  obtain ⟨hcommand, hnotices⟩ := State.settleWalker_quiet (h .event)
  have hcapture : (s.settleWalker .event).flushQuiet .capture := by
    unfold State.flushQuiet
    rw [hcommand, State.settleWalker_other _ (by simp)]
    exact h .capture
  obtain ⟨hcommand', hnotices'⟩ := State.settleWalker_quiet hcapture
  exact ⟨hcommand'.trans hcommand, hnotices'.trans hnotices⟩

theorem State.settle_of_idle {s : State} (h : s.command.running = none) :
    s.settle.command = s.command ∧ s.settle.notices = s.notices :=
  State.settle_quiet fun _ => .inl h

theorem State.flushQuiet_of_settled {s : State} (h : s.settled = true) (i : StreamId) : s.flushQuiet i :=
  .inr (Walker.flushEnds_of_settled ((State.settled_iff s).1 h i))

theorem State.flushQuiet_of_not_atRest {s : State} {i : StreamId} (h : (s.walker i).atRest = false) : s.flushQuiet i :=
  .inr (Walker.flushEnds_of_not_atRest h)

/-- R103, R101: the judgement draws a free choice only where both conditions hold outside a flush's end. -/
theorem State.freeCount_settleWalker {s : State} {i : StreamId}
    (h : ¬ ((s.walker i).flushDone = false ∧ (s.walker i).atRest = true ∧
      (s.walker i).fullCondition (s.stream i).fifo = true ∧
      (s.walker i).lingerCondition (s.lingerSetting i) = true)) : (s.settleWalker i).freeCount = s.freeCount := by
  have hclosed : (s.settleFlush i).closeOpen i = false := by
    have hstream : (s.settleFlush i).stream i = s.stream i := by cases i <;> simp [State.stream]
    have hlinger : (s.settleFlush i).lingerSetting i = s.lingerSetting i := State.lingerSetting_congr (by simp) i
    rw [State.closeOpen, State.walker_settleFlush, hstream, hlinger, Walker.flushed]
    split
    next hends =>
      have hempty : (s.walker i).fillOffset = 0 := by
        simp only [Walker.flushEnds, Bool.and_eq_true, decide_eq_true_eq] at hends
        exact hends.2
      simp [Walker.lingerCondition, hempty]
    · by_contra hopen
      simp only [Bool.not_eq_false, Bool.and_eq_true, Bool.not_eq_true'] at hopen
      obtain ⟨⟨⟨hrest, hdone⟩, hfull⟩, hlinger⟩ := hopen
      exact h ⟨hdone, hrest, hfull, hlinger⟩
  unfold State.settleWalker
  dsimp only
  rw [hclosed]
  simp

/-- A move out of its state dirties the walker's section. -/
theorem State.isDirty_settleClose_of_closes {s : State} {i : StreamId} {b : Bool}
    (h : ((s.settleClose i b).walker i).state ≠ (s.walker i).state) :
    (s.settleClose i b).isDirty i.reportSection = true := by
  have hclose (hrest : (s.walker i).atRest = true) (reason : CloseReason) :
      (s.closeBuffer i reason).isDirty i.reportSection = true := by
    rw [Walker.atRest_iff] at hrest
    simp [State.closeBuffer, hrest.1]
  unfold State.settleClose at h ⊢
  dsimp only at h ⊢
  split at h
  · exact absurd rfl h
  next hrest =>
    have hrest : (s.walker i).atRest = true := by simpa using hrest
    rw [if_neg (by simpa using hrest)]
    split
    · exact hclose hrest _
    next hdone =>
      rw [if_neg hdone] at h
      split
      · exact hclose hrest _
      next hfull =>
        rw [if_neg hfull] at h
        split
        · exact hclose hrest _
        next hlinger =>
          rw [if_neg hlinger] at h
          exact absurd rfl h

theorem State.isDirty_settleWalker_of_closes {s : State} {i : StreamId}
    (h : ((s.settleWalker i).walker i).state ≠ (s.walker i).state) : (s.settleWalker i).isDirty i.reportSection = true := by
  have hflush : ((s.settleFlush i).walker i).state = (s.walker i).state := by
    rw [State.walker_settleFlush, Walker.flushed]
    split <;> rfl
  unfold State.settleWalker at h ⊢
  dsimp only at h ⊢
  split
  next hopen =>
    rw [if_pos hopen, ← hflush] at h
    exact State.isDirty_settleClose_of_closes (by simpa using h)
  next hopen =>
    rw [if_neg hopen, ← hflush] at h
    exact State.isDirty_settleClose_of_closes h

/-- R94: a walker that the judgement closes dirties its section. -/
theorem State.isDirty_settle_of_closes {s : State} {i : StreamId} (h : (s.settle.walker i).state ≠ (s.walker i).state) :
    s.settle.isDirty i.reportSection = true := by
  unfold State.settle at h ⊢
  cases i with
  | event =>
    rw [State.settleWalker_other _ (by simp)] at h
    exact State.isDirty_settleWalker_of_isDirty (State.isDirty_settleWalker_of_closes h) _
  | capture =>
    refine State.isDirty_settleWalker_of_closes ?_
    rwa [State.settleWalker_other s (i := .event) (by simp)]

theorem Walker.flushDone_eq_false {w : Walker} (h : w.flushCount ≠ some 0) : w.flushDone = false := by
  simp [Walker.flushDone, h]

end Sys2Proof.Machine
end

section
/-! SUPPORT. Commands that their own stages refuse (R134 stages 4 and 5): an argument out of range, and a block in the wrong
state. -/

namespace Sys2Proof.Machine

/-! ## Arguments -/

theorem triggerArg_eq_some_iff (w : Word) (k : TriggerKind) : triggerArg w = some k ↔ w.toNat = k.code.toNat := by
  unfold triggerArg
  by_cases h0 : w = 0
  · subst h0
    cases k <;> simp [TriggerKind.code]
  · by_cases h1 : w = 1
    · subst h1
      cases k <;> simp [TriggerKind.code]
    · by_cases h2 : w = 2
      · subst h2
        cases k <;> simp [TriggerKind.code]
      · rw [if_neg h0, if_neg h1, if_neg h2]
        have h0' : w.toNat ≠ 0 := fun h => h0 (BitVec.eq_of_toNat_eq h)
        have h1' : w.toNat ≠ 1 := fun h => h1 (BitVec.eq_of_toNat_eq h)
        have h2' : w.toNat ≠ 2 := fun h => h2 (BitVec.eq_of_toNat_eq h)
        cases k <;> simp [TriggerKind.code, h0', h1', h2']

theorem triggerArg_eq_none {w : Word} (h : 2 < w.toNat) : triggerArg w = none := by
  cases hk : triggerArg w with
  | none => rfl
  | some k =>
    have := (triggerArg_eq_some_iff w k).1 hk
    cases k <;> simp [TriggerKind.code] at this <;> omega

/-- R56: a trigger kind with the other arguments in range gives the settings. -/
theorem State.triggerArgs_of_inRange {s : State} {k : TriggerKind} (hkind : (s.arg 1).toNat = k.code.toNat)
    (hentry : k = .onEntry → (s.arg 2).toNat ≤ 31) (hquiet : (s.arg 3).toNat ≤ 65535) (hlimit : (s.arg 4).toNat ≤ 4096)
    (hshot : (s.arg 5).toNat ≤ 1) : s.triggerArgs = some
      { kind := k, entry := if k = .onEntry then (s.arg 2).toNat else s.capture.trigger.entry
        quiet := (s.arg 3).toNat, limit := (s.arg 4).toNat, oneShot := decide (s.arg 5 = 1) } := by
  have hrange : ¬ ((k = .onEntry ∧ 31 < (s.arg 2).toNat) ∨ 65535 < (s.arg 3).toNat ∨ 4096 < (s.arg 4).toNat ∨
      1 < (s.arg 5).toNat) := by
    rintro (⟨hk, hlt⟩ | hlt | hlt | hlt)
    · exact absurd hlt (Nat.not_lt.2 (hentry hk))
    all_goals omega
  simp only [State.triggerArgs, (triggerArg_eq_some_iff _ k).2 hkind, if_neg hrange]

theorem State.triggerArgs_of_outOfRange {s : State} (h : 2 < (s.arg 1).toNat ∨ (s.arg 1 = 2 ∧ 31 < (s.arg 2).toNat) ∨
    65535 < (s.arg 3).toNat ∨ 4096 < (s.arg 4).toNat ∨ 1 < (s.arg 5).toNat) : s.triggerArgs = none := by
  cases hk : triggerArg (s.arg 1) with
  | none => simp only [State.triggerArgs, hk]
  | some k =>
    have hcode := (triggerArg_eq_some_iff _ k).1 hk
    have hrange : (k = .onEntry ∧ 31 < (s.arg 2).toNat) ∨ 65535 < (s.arg 3).toNat ∨ 4096 < (s.arg 4).toNat ∨
        1 < (s.arg 5).toNat := by
      obtain hkind | ⟨htwo, hentry⟩ | h := h
      · rw [triggerArg_eq_none hkind] at hk
        cases hk
      · rw [htwo] at hcode
        refine .inl ⟨?_, hentry⟩
        cases k
        · cases hcode
        · cases hcode
        · rfl
      · exact .inr h
    simp only [State.triggerArgs, hk, if_pos hrange]

/-! ## Refusals, by command -/

theorem bodyLoadPolicy_of_no_image {s : State} (h : (s.arg 1).toNat % 64 ≠ 0 ∨ 0xFFFFFBC0 < (s.arg 1).toNat) (n : BitVec 8) :
    bodyLoadPolicy n s = s.answer .loadPolicy .badarg n := by
  rw [bodyLoadPolicy, if_neg]
  rw [imageAddressOk_iff]
  omega

theorem bodySetChain_of_badarg {s : State} (h : 1 < (s.arg 1).toNat ∨ (s.arg 2).toNat % 16 ≠ 0) (n : BitVec 8) :
    bodySetChain n s = s.answer .setChain .badarg n := by
  unfold bodySetChain
  split
  · rfl
  next i hi =>
    rw [if_pos]
    obtain hstream | haddress := h
    · rw [(streamArg_eq_none_iff _).2 hstream] at hi
      cases hi
    · exact haddress

theorem bodyFlush_of_no_stream {s : State} (h : streamArg (s.arg 1) = none) (n : BitVec 8) :
    bodyFlush n s = s.answer .flush .badarg n := by
  simp only [bodyFlush, h]

theorem bodyMark_of_no_stream {s : State} (h : streamArg (s.arg 1) = none) (n : BitVec 8) :
    bodyMark n s = s.answer .mark .badarg n := by
  simp only [bodyMark, h]

theorem bodyCaptureStop_of_badarg {s : State} (h : 1 < (s.arg 1).toNat) (n : BitVec 8) :
    bodyCaptureStop n s = s.answer .captureStop .badarg n := by
  have hnow : s.arg 1 ≠ 0 := by
    intro heq
    simp [heq] at h
  have hend : s.arg 1 ≠ 1 := by
    intro heq
    simp [heq] at h
  rw [bodyCaptureStop, if_neg hnow, if_neg hend]

theorem bodyCaptureStart_of_outOfRange {s : State} (h : s.triggerArgs = none) (n : BitVec 8) :
    bodyCaptureStart n s = s.answer .captureStart .badarg n := by
  simp only [bodyCaptureStart, h]

theorem bodyAck_of_no_mask {s : State} (h : noticeMaskArg (s.arg 1) = none) (n : BitVec 8) :
    bodyAck n s = s.answer .ack .badarg n := by
  simp only [bodyAck, h]

theorem statsAddressOk_iff (w : Word) : statsAddressOk w = true ↔ w.toNat % 64 = 0 ∧ w.toNat ≤ 0xFFFFFF80 := by
  simp only [statsAddressOk, Bool.and_eq_true, decide_eq_true_eq]

theorem bodyStats_of_badarg {s : State}
    (h : (s.arg 1).toNat % 64 ≠ 0 ∨ 0xFFFFFF80 < (s.arg 1).toNat ∨ 1 < (s.arg 2).toNat) (n : BitVec 8) :
    bodyStats n s = s.answer .stats .badarg n := by
  rw [bodyStats, if_neg]
  rw [statsAddressOk_iff]
  omega

theorem State.timingArgsOk_iff (s : State) :
    s.timingArgsOk = true ↔ (1 ≤ (s.arg 1).toNat ∧ (s.arg 1).toNat ≤ 65536) ∧ (s.arg 2).toNat ≤ 65535 ∧
      (s.arg 3).toNat ≤ 65535 ∧ 64 ≤ (s.arg 4).toNat ∧ (s.arg 4).toNat ≤ 1008 ∧ (s.arg 4).toNat % 16 = 0 := by
  simp only [State.timingArgsOk, Bool.and_eq_true, decide_eq_true_eq, and_assoc]

theorem bodySetTiming_of_badarg {s : State}
    (h : (s.arg 1).toNat < 1 ∨ 65536 < (s.arg 1).toNat ∨ 65535 < (s.arg 2).toNat ∨ 65535 < (s.arg 3).toNat ∨
      (s.arg 4).toNat < 64 ∨ 1008 < (s.arg 4).toNat ∨ (s.arg 4).toNat % 16 ≠ 0) (n : BitVec 8) :
    bodySetTiming n s = s.answer .setTiming .badarg n := by
  rw [bodySetTiming, if_neg]
  rw [State.timingArgsOk_iff]
  omega

/-- Settles O32: each command's BADARG branch, and a refusal is its own account alone. -/
theorem argumentOutOfRangeIsRefused : Obligations.ArgumentOutOfRangeIsRefused := by
  intro s hready
  refine ⟨fun h => ?loadPolicy, fun h => ?setChain, fun h => ?streams, fun h => ?captureStart, fun h => ?masks,
    fun h => ?stats, fun h => ?setTiming⟩
  case loadPolicy =>
    exact event_command_answered hready .loadPolicy .badarg (bodyLoadPolicy_of_no_image (s := s.counted) h _)
  case setChain =>
    have hbody := event_command_answered hready .setChain .badarg (bodySetChain_of_badarg (s := s.counted) h _)
    exact ⟨hbody, hbody⟩
  case streams =>
    have hnone : streamArg (s.counted.arg 1) = none := (streamArg_eq_none_iff _).2 h
    have hstop := event_command_answered hready .captureStop .badarg (bodyCaptureStop_of_badarg (s := s.counted) h _)
    exact ⟨event_command_answered hready .kick .badarg (bodyKick_of_no_stream hnone _),
      event_command_answered hready .flush .badarg (bodyFlush_of_no_stream hnone _), hstop, hstop,
      event_command_answered hready .mark .badarg (bodyMark_of_no_stream hnone _)⟩
  case captureStart =>
    have hnone : s.counted.triggerArgs = none := State.triggerArgs_of_outOfRange (s := s.counted) h
    exact event_command_answered hready .captureStart .badarg (bodyCaptureStart_of_outOfRange hnone _)
  case masks =>
    have hnone : noticeMaskArg (s.counted.arg 1) = none := noticeMaskArg_of_ge h
    exact ⟨event_command_answered hready .ack .badarg (bodyAck_of_no_mask hnone _),
      exec_noticeEnable_of_no_mask hready hnone⟩
  case stats =>
    exact event_command_answered hready .stats .badarg (bodyStats_of_badarg (s := s.counted) h _)
  case setTiming =>
    exact event_command_answered hready .setTiming .badarg (bodySetTiming_of_badarg (s := s.counted) h _)

/-! ## The wrong state (R134 stage 5) -/

theorem bodyCommit_of_empty {s : State} (h : s.policy.staged = .empty) (n : BitVec 8) :
    bodyCommit n s = s.answer .commit .nostaged n := by
  simp only [bodyCommit, h]

theorem bodySetChain_of_not_startable {s : State} {i : StreamId} (hi : streamArg (s.arg 1) = some i)
    (haddress : (s.arg 2).toNat % 16 = 0) (hzero : s.arg 2 ≠ 0) (h : (s.walker i).state.startable = false) (n : BitVec 8) :
    bodySetChain n s = s.answer .setChain .state n := by
  simp only [bodySetChain, hi, haddress, ne_eq, not_true_eq_false, if_false, hzero, h, Bool.false_eq_true]

theorem bodyFlush_of_not_filling {s : State} {i : StreamId} (hi : streamArg (s.arg 1) = some i)
    (h : (s.walker i).state ≠ .filling) (n : BitVec 8) : bodyFlush n s = s.answer .flush .state n := by
  simp only [bodyFlush, hi, h, if_false]

theorem bodyCaptureStart_of_not_stopped {s : State} {x : TriggerSettings} (hx : s.triggerArgs = some x)
    (h : s.capture.state ≠ .stopped) (n : BitVec 8) : bodyCaptureStart n s = s.answer .captureStart .state n := by
  simp only [bodyCaptureStart, hx, h, if_false]

theorem bodyCaptureStop_now_of_stopped {s : State} (hnow : s.arg 1 = 0) (h : s.capture.state = .stopped) (n : BitVec 8) :
    bodyCaptureStop n s = s.answer .captureStop .state n := by
  simp only [bodyCaptureStop, hnow, h, if_true]

theorem bodyCaptureStop_atGroupEnd_of_ending {s : State} (hend : s.arg 1 = 1)
    (h : s.capture.state = .stopped ∨ s.capture.state = .stopping) (n : BitVec 8) :
    bodyCaptureStop n s = s.answer .captureStop .state n := by
  have hnow : s.arg 1 ≠ 0 := by simp [hend]
  rw [bodyCaptureStop, if_neg hnow, if_pos hend, if_pos h]

/-- Settles O33: each command's STATE branch, NOSTAGED for COMMIT. -/
theorem wrongBlockStateIsRefused : Obligations.WrongBlockStateIsRefused := by
  intro s hready
  refine ⟨fun h => ?commit, fun i harg => ⟨fun haddress hzero hstate => ?setChain, fun hstate => ?kick, fun hstate => ?flush⟩,
    fun hkind hentry hquiet hlimit hshot hstate => ?captureStart, fun hnow hstate => ?stopNow, fun hend hstate => ?stopAtEnd⟩
  case commit =>
    exact event_command_answered hready .commit .nostaged (bodyCommit_of_empty (s := s.counted) h _)
  case setChain =>
    have hi : streamArg (s.counted.arg 1) = some i := (streamArg_eq_some_iff _ i).2 harg
    have hbusy : (s.counted.walker i).state.startable = false := by
      rw [State.walker_counted]
      obtain h | h | h | h := hstate <;> rw [h] <;> rfl
    exact event_command_answered hready .setChain .state (bodySetChain_of_not_startable hi haddress hzero hbusy _)
  case kick =>
    have hi : streamArg (s.counted.arg 1) = some i := (streamArg_eq_some_iff _ i).2 harg
    exact event_command_answered hready .kick .state (bodyKick_of_not_waiting hi (by simpa using hstate) _)
  case flush =>
    have hi : streamArg (s.counted.arg 1) = some i := (streamArg_eq_some_iff _ i).2 harg
    exact event_command_answered hready .flush .state (bodyFlush_of_not_filling hi (by simpa using hstate) _)
  case captureStart =>
    obtain ⟨k, hk⟩ : ∃ k : TriggerKind, (s.counted.arg 1).toNat = k.code.toNat := by
      have hcases : (s.arg 1).toNat = 0 ∨ (s.arg 1).toNat = 1 ∨ (s.arg 1).toNat = 2 := by omega
      obtain h | h | h := hcases
      · exact ⟨.immediate, h⟩
      · exact ⟨.onDenial, h⟩
      · exact ⟨.onEntry, h⟩
    have hentry' : k = .onEntry → (s.counted.arg 2).toNat ≤ 31 := by
      rintro rfl
      exact hentry (BitVec.eq_of_toNat_eq hk)
    have hargs := State.triggerArgs_of_inRange (s := s.counted) hk hentry' hquiet hlimit hshot
    exact event_command_answered hready .captureStart .state (bodyCaptureStart_of_not_stopped hargs hstate _)
  case stopNow =>
    exact event_command_answered hready .captureStop .state (bodyCaptureStop_now_of_stopped (s := s.counted) hnow hstate _)
  case stopAtEnd =>
    exact event_command_answered hready .captureStop .state
      (bodyCaptureStop_atGroupEnd_of_ending (s := s.counted) hend hstate _)

end Sys2Proof.Machine
end

section
/-! SUPPORT. Commands that end DONE in their own event, with the judgement of the walkers behind them: COMMIT (R153), SET_CHAIN
(R96), CAPTURE_START (R56), CAPTURE_STOP (R57), MARK (R85), ACK (R141), STATS (R48), SET_TIMING (R89) and RECORD_RESET
(R144). -/

namespace Sys2Proof.Machine

/-! ## Dirty sections -/

theorem State.isDirty_countLost_of_isDirty {s : State} {d : Section} (h : s.isDirty d = true) (i : StreamId) (k : Nat) :
    (s.countLost i k).isDirty d = true := by
  unfold State.countLost
  split
  · exact h
  · simp [h]

theorem State.isDirty_offer_of_isDirty {s : State} {d : Section} (h : s.isDirty d = true) (i : StreamId) (r : Record) :
    (s.offer i r).isDirty d = true := by
  unfold State.offer
  dsimp only
  split
  · split
    · simp [h]
    · simp [h]
  · exact State.isDirty_countLost_of_isDirty h i 1

theorem State.isDirty_changeCapture_of_isDirty {s : State} {d : Section} (h : s.isDirty d = true) (c : CaptureState) :
    (s.changeCapture c).isDirty d = true := by
  unfold State.changeCapture
  split
  · exact h
  · exact State.isDirty_offer_of_isDirty (by simp [h]) ..

/-! ## The event of a command that ends DONE -/

/-- What the event of a command leaves whose own stages make `v` of the part and answer DONE (`event_command_ends`). -/
def State.doneAs (s v : State) (c : Command) : State := (v.answer c .done (s.command.count + 1)).settle

theorem event_command_ends {s v : State} (h : s.ready) (c : Command)
    (hbody : c.body (s.command.count + 1) s.counted = v.answer c .done (s.command.count + 1)) :
    event s.live (deliverCommand c .supervisor) s = .next (s.doneAs v c) := by
  rw [event_command h, hbody]
  rfl

@[simp] theorem State.doneAs_frame (s v : State) (c : Command) :
    (s.doneAs v c).anchorSel = v.anchorSel ∧ (s.doneAs v c).resetAsserted = v.resetAsserted ∧
      (s.doneAs v c).queue = v.queue ∧ (s.doneAs v c).policy = v.policy ∧ (s.doneAs v c).denial = v.denial ∧
      (s.doneAs v c).capture = v.capture ∧ (s.doneAs v c).eventStream = v.eventStream ∧
      (s.doneAs v c).captureStream = v.captureStream ∧ (s.doneAs v c).arbiter = v.arbiter ∧
      (s.doneAs v c).time = v.time ∧ (s.doneAs v c).memoryPort = v.memoryPort ∧
      (s.doneAs v c).processorPort = v.processorPort ∧ (s.doneAs v c).pending = v.pending := by
  simp [State.doneAs]

/-- R136: the account of a command that ends DONE. -/
theorem State.command_doneAs {s v : State} (hidle : s.command.running = none) (hv : v.command = s.counted.command)
    (c : Command) : (s.doneAs v c).command = { s.command with
      count := s.command.count + 1
      result := { code := c.code, result := 1, fieldIndex := 0, number := s.command.count + 1 } } := by
  have hcommand : (v.answer c .done (s.command.count + 1)).command = { s.command with
      count := s.command.count + 1
      result := { code := c.code, result := 1, fieldIndex := 0, number := s.command.count + 1 } } := by
    simp only [State.answer, State.setResult_eq, hv]
    rfl
  have hidle' : (v.answer c .done (s.command.count + 1)).command.running = none := by
    rw [hcommand]
    exact hidle
  rw [State.doneAs, (State.settle_of_idle hidle').1, hcommand]

theorem State.isRaised_commandDone_doneAs (s v : State) (c : Command) : (s.doneAs v c).isRaised .commandDone = true :=
  State.isRaised_settle_of_isRaised (by simp)

theorem State.isRaised_doneAs_of_ne (s v : State) (c : Command) {m : Notice} (h : m ≠ .commandDone) :
    (s.doneAs v c).isRaised m = v.isRaised m := by
  rw [State.doneAs, State.isRaised_settle_of_ne _ h, State.isRaised_answer, decide_eq_false h, Bool.or_false]

theorem State.isDirty_doneAs_of_isDirty {v : State} {d : Section} (h : v.isDirty d = true) (s : State) (c : Command) :
    (s.doneAs v c).isDirty d = true := by
  refine State.isDirty_settle_of_isDirty ?_
  rw [State.answer, State.isDirty_setResult, h]
  rfl

/-- The judgement leaves a walker that it left before, where nothing that it reads of that walker has changed. -/
theorem State.walker_settle_of_same {s u : State} (hsettled : s.settled = true) {i : StreamId}
    (hwalker : u.walker i = s.walker i) (hfifo : (u.stream i).fifo = (s.stream i).fifo)
    (hlinger : u.lingerSetting i = s.lingerSetting i) : u.settle.walker i = s.walker i := by
  rw [← hwalker]
  refine State.walker_settle_of_settled ?_
  rw [hwalker, hfifo, hlinger]
  exact (State.settled_iff s).1 hsettled i

theorem State.captureWalker_doneAs {s v : State} (hsettled : s.settled = true) (hwalker : v.captureWalker = s.captureWalker)
    (hstream : v.captureStream = s.captureStream) (htime : v.time = s.time) (c : Command) :
    (s.doneAs v c).captureWalker = s.captureWalker :=
  State.walker_settle_of_same (i := .capture) hsettled (by simpa [State.walker] using hwalker)
    (by simp [State.stream, hstream]) (State.lingerSetting_congr (by simpa using htime) _)

theorem State.eventWalker_doneAs {s v : State} (hsettled : s.settled = true) (hwalker : v.eventWalker = s.eventWalker)
    (hstream : v.eventStream = s.eventStream) (htime : v.time = s.time) (c : Command) :
    (s.doneAs v c).eventWalker = s.eventWalker :=
  State.walker_settle_of_same (i := .event) hsettled (by simpa [State.walker] using hwalker)
    (by simp [State.stream, hstream]) (State.lingerSetting_congr (by simpa using htime) _)

/-! ## COMMIT (R153, R154) -/

theorem exec_commit (p : Privilege) (s : State) : exec (.commit p) s = event s.live (deliverCommand .commit p) s := rfl

theorem bodyCommit_of_valid {s : State} {p : Policy} (h : s.policy.staged = .valid p) (n : BitVec 8) :
    bodyCommit n s = (s.commitPolicy p).answer .commit .done n := by
  simp only [bodyCommit, h]

theorem State.policy_commitPolicy (s : State) (p : Policy) : (s.commitPolicy p).policy =
    { active := p, staged := .valid s.policy.active, commitCount := s.policy.commitCount + 1
      decimation := Vector.replicate 32 1, slotCounts := Vector.replicate 32 0 } := by
  simp [State.commitPolicy]

theorem State.denial_commitPolicy (s : State) (p : Policy) :
    (s.commitPolicy p).denial = { s.denial with defaultCount := 0 } := by
  simp [State.commitPolicy]

theorem State.eventStream_commitPolicy (s : State) (p : Policy) :
    (s.commitPolicy p).eventStream = s.eventStream.afterOffer .event s.time.tick
      (.commit p.entries.length (s.policy.commitCount + 1) s.time.tick) := by
  rw [State.commitPolicy, State.eventStream_offer]
  simp

/-- Settles O36: the swap is `State.commitPolicy`, and the COMMIT record may close the event walker's buffer. -/
theorem commitSwapsTheTables : Obligations.CommitSwapsTheTables := by
  intro s p hready hstaged
  have ⟨_, hidle, hsettled⟩ := hready
  have hcommand : (s.counted.commitPolicy p).command = s.counted.command := by simp [State.commitPolicy]
  have hdirty : (s.counted.commitPolicy p).isDirty .policy = true :=
    State.isDirty_offer_of_isDirty (by rw [State.isDirty_markDirty]; simp) ..
  refine ⟨s.doneAs (s.counted.commitPolicy p) .commit, ?_, ?_, ?_, ?_, ?_, ?_, ?_, ?_⟩
  · rw [exec_commit]
    exact event_command_ends hready .commit (bodyCommit_of_valid (s := s.counted) hstaged _)
  · simp [State.policy_commitPolicy]
  · simp [State.denial_commitPolicy]
  · simp [State.eventStream_commitPolicy]
  · exact State.isDirty_doneAs_of_isDirty hdirty s .commit
  · exact State.isRaised_commandDone_doneAs ..
  · exact State.command_doneAs hidle hcommand .commit
  · apply State.eq_of_parts
    case captureWalker =>
      exact State.captureWalker_doneAs hsettled (by simp [State.commitPolicy, State.counted])
        (by simp [State.commitPolicy, State.counted]) (by simp [State.commitPolicy, State.counted]) _
    all_goals simp [State.commitPolicy, State.counted]

/-! ## CAPTURE_START (R56) -/

theorem exec_captureStart (p : Privilege) (s : State) :
    exec (.captureStart p) s = event s.live (deliverCommand .captureStart p) s := rfl

theorem bodyCaptureStart_of_stopped {s : State} {x : TriggerSettings} (hx : s.triggerArgs = some x)
    (h : s.capture.state = .stopped) (n : BitVec 8) :
    bodyCaptureStart n s = (s.startCapture x).answer .captureStart .done n := by
  simp only [bodyCaptureStart, hx, h, if_true]

theorem State.capture_startCapture (s : State) (x : TriggerSettings) : (s.startCapture x).capture = { s.capture with
    state := if x.kind = .immediate then .running else .armed, trigger := x } := by
  simp [State.startCapture]

theorem State.eventStream_startCapture {s : State} (h : s.capture.state = .stopped) (x : TriggerSettings) :
    (s.startCapture x).eventStream = s.eventStream.afterOffer .event s.time.tick
      (.captureState .stopped (if x.kind = .immediate then .running else .armed) s.capture.groupNumber s.time.tick) := by
  have hnew : (if x.kind = .immediate then CaptureState.running else .armed) ≠ .stopped := by split <;> simp
  rw [State.startCapture, State.eventStream_changeCapture, if_neg (by simpa [h] using hnew)]
  simp [h]

/-- Settles O41: the session starts by `State.startCapture`, and its record may close the event walker's buffer. -/
theorem captureStartBeginsASession : Obligations.CaptureStartBeginsASession := by
  intro s k hready hstopped hkind hentry hquiet hlimit hshot
  have ⟨_, hidle, hsettled⟩ := hready
  have hcode : (s.counted.arg 1).toNat = k.code.toNat := by cases k <;> exact hkind
  have hargs := State.triggerArgs_of_inRange (s := s.counted) hcode hentry hquiet hlimit hshot
  have hone : decide (s.counted.arg 5 = 1) = decide ((s.arg 5).toNat = 1) := by
    rw [decide_eq_decide, State.arg_counted]
    exact ⟨fun h => by simp [h], fun h => BitVec.eq_of_toNat_eq h⟩
  rw [hone] at hargs
  let x : TriggerSettings :=
    { kind := k, entry := if k = .onEntry then (s.arg 2).toNat else s.capture.trigger.entry
      quiet := (s.arg 3).toNat, limit := (s.arg 4).toNat, oneShot := decide ((s.arg 5).toNat = 1) }
  have hv : (s.counted.startCapture x).command = s.counted.command := by simp [State.startCapture]
  have hnew : s.counted.capture.state ≠ (if x.kind = .immediate then CaptureState.running else .armed) := by
    rw [show s.counted.capture.state = .stopped from hstopped]
    split <;> simp
  refine ⟨s.doneAs (s.counted.startCapture x) .captureStart, ?_, ?_, ?_, ?_, ?_, ?_, ?_, ?_⟩
  · rw [exec_captureStart]
    exact event_command_ends hready .captureStart (bodyCaptureStart_of_stopped (s := s.counted) hargs hstopped _)
  · simp [State.capture_startCapture, x]
  · simp [State.startCapture, State.counted]
  · simp [State.eventStream_startCapture (s := s.counted) hstopped, x]
  · rw [State.isRaised_doneAs_of_ne _ _ _ (by simp)]
    exact State.isRaised_changeCapture (by simpa using hnew)
  · refine State.isDirty_doneAs_of_isDirty (d := .capture) (State.isDirty_changeCapture_of_isDirty ?_ _) s .captureStart
    exact (State.isDirty_markDirty ..).trans (by simp)
  · exact State.command_doneAs hidle hv .captureStart
  · apply State.eq_of_parts
    case captureWalker =>
      exact State.captureWalker_doneAs hsettled (by simp [State.startCapture, State.counted])
        (by simp [State.startCapture, State.counted]) (by simp [State.startCapture, State.counted]) _
    all_goals simp [State.startCapture, State.counted]

end Sys2Proof.Machine
end

section
/-! SUPPORT. More commands that end DONE in their own event: SET_CHAIN (R96), CAPTURE_STOP (R57), MARK (R85), ACK (R141),
STATS (R48), SET_TIMING (R89) and RECORD_RESET (R144). -/

namespace Sys2Proof.Machine

/-! ## SET_CHAIN (R96) -/

theorem exec_setChain (p : Privilege) (s : State) : exec (.setChain p) s = event s.live (deliverCommand .setChain p) s := rfl

theorem bodySetChain_of_startable {s : State} {i : StreamId} (hi : streamArg (s.arg 1) = some i)
    (haddress : (s.arg 2).toNat % 16 = 0) (hzero : s.arg 2 ≠ 0) (h : (s.walker i).state.startable = true) (n : BitVec 8) :
    bodySetChain n s = (s.startChain i (s.arg 2)).answer .setChain .done n := by
  simp only [bodySetChain, hi, haddress, ne_eq, not_true_eq_false, if_false, hzero, h, if_true]

/-- The command count and the walkers are apart: either may be changed first. -/
theorem State.startChain_counted (s : State) (i : StreamId) (a : Word) :
    s.counted.startChain i a = (s.startChain i a).counted := by
  simp only [State.startChain, State.moveWalker, State.markDirtyIf_eq]
  cases i <;> rfl

theorem State.settled_startChain {s : State} (h : s.settled = true) (i : StreamId) (a : Word) :
    (s.startChain i a).settled = true := by
  apply State.settled_of_walker i h
  · simp [State.startChain]
  · intro j hj
    have htime : (s.startChain i a).time = s.time := by simp [State.startChain]
    exact ⟨by simp [State.startChain, hj], by simp [State.startChain], State.lingerSetting_congr htime j⟩

/-- Settles O37: a startable walker is moved to FETCHING, which no close or flush condition speaks of. -/
theorem setChainStartsTheWalker : Obligations.SetChainStartsTheWalker := by
  intro s i hready harg haddress hzero hstate
  have ⟨_, _, hsettled⟩ := hready
  have hi : streamArg (s.counted.arg 1) = some i := (streamArg_eq_some_iff _ i).2 harg
  have hstartable : (s.counted.walker i).state.startable = true := by
    rw [State.walker_counted]
    obtain h | h | h := hstate <;> rw [h] <;> rfl
  have hmove : s.startChain i (s.arg 2) = _ := State.moveWalker_of_state_ne (by
    obtain h | h | h := hstate <;> simp [h])
  have hcount : (s.startChain i (s.arg 2)).command.count = s.command.count := by simp [State.startChain]
  have hbody : Command.setChain.body (s.command.count + 1) s.counted = (s.startChain i (s.arg 2)).completed 0x05 1 :=
    calc Command.setChain.body (s.command.count + 1) s.counted
        = (s.counted.startChain i (s.arg 2)).answer .setChain .done (s.command.count + 1) :=
          bodySetChain_of_startable hi haddress hzero hstartable _
      _ = (s.startChain i (s.arg 2)).counted.setResult 0x05 .done 0 ((s.startChain i (s.arg 2)).command.count + 1) := by
          rw [State.startChain_counted, hcount]; rfl
      _ = (s.startChain i (s.arg 2)).completed 0x05 1 := State.setResult_counted _ _ .done
  rw [exec_setChain, ← hmove, event_command hready, hbody]
  exact congrArg _ (State.settle_of_settled (State.settled_startChain hsettled i _))

/-! ## CAPTURE_STOP (R57, R64) -/

theorem exec_captureStopNow (p : Privilege) (s : State) :
    exec (.captureStopNow p) s = event s.live (deliverCommand .captureStop p) s := rfl

theorem exec_captureStopAtGroupEnd (p : Privilege) (s : State) :
    exec (.captureStopAtGroupEnd p) s = event s.live (deliverCommand .captureStop p) s := rfl

theorem bodyCaptureStop_now {s : State} (hnow : s.arg 1 = 0) (h : s.capture.state ≠ .stopped) (n : BitVec 8) :
    bodyCaptureStop n s = s.stopNow.answer .captureStop .done n := by
  rw [bodyCaptureStop, if_pos hnow, if_neg h]

theorem bodyCaptureStop_atGroupEnd {s : State} (hend : s.arg 1 = 1)
    (h : s.capture.state = .running ∨ s.capture.state = .armed) (n : BitVec 8) :
    bodyCaptureStop n s = s.stopAtGroupEnd.answer .captureStop .done n := by
  have hnow : s.arg 1 ≠ 0 := by simp [hend]
  have hending : ¬ (s.capture.state = .stopped ∨ s.capture.state = .stopping) := by
    obtain h | h := h <;> simp [h]
  rw [bodyCaptureStop, if_neg hnow, if_pos hend, if_neg hending]

theorem closedState_stop (c : CaptureState) (oneShot : Bool) : closedState c .stop oneShot = .stopped := by
  cases c <;> simp [closedState]

theorem State.stopNow_of_none {s : State} (h : s.capture.openGroup = none) : s.stopNow = s.changeCapture .stopped := by
  simp [State.stopNow, h]

theorem State.stopNow_of_some {s : State} {g : OpenGroup} (h : s.capture.openGroup = some g) :
    s.stopNow = s.closeGroup .stop := by
  simp [State.stopNow, h]

/-- R57: AT_GROUP_END waits in STOPPING for an open group. -/
theorem State.stopAtGroupEnd_eq {s : State} (hlaw : s.groupLaw)
    (hstate : s.capture.state = .running ∨ s.capture.state = .armed) :
    s.stopAtGroupEnd = s.changeCapture (if s.capture.openGroup.isSome then .stopping else .stopped) := by
  obtain ⟨hnone, -⟩ := hlaw
  obtain hrunning | harmed := hstate
  · simp only [State.stopAtGroupEnd, hrunning, true_and]
    split <;> rfl
  · simp [State.stopAtGroupEnd, harmed, hnone (.inr harmed)]

/-- Settles O42: NOW is a close of the open group, or a change of state where none is open; AT_GROUP_END is a change of
state. -/
theorem captureStopEndsTheSession : Obligations.CaptureStopEndsTheSession := by
  intro s hready hlaw
  have ⟨_, hidle, hsettled⟩ := hready
  refine ⟨fun hnow hstate => ?now, fun hend hstate => ?atEnd⟩
  case now =>
    have hbody := bodyCaptureStop_now (s := s.counted) hnow hstate (s.command.count + 1)
    have hv : s.counted.stopNow.command = s.counted.command := by simp
    have hrow : exec (.captureStopNow .supervisor) s = .next (s.doneAs s.counted.stopNow .captureStop) := by
      rw [exec_captureStopNow]
      exact event_command_ends hready .captureStop hbody
    have hframe : s.doneAs s.counted.stopNow .captureStop = { s with
        capture := (s.doneAs s.counted.stopNow .captureStop).capture
        eventStream := (s.doneAs s.counted.stopNow .captureStop).eventStream
        captureStream := (s.doneAs s.counted.stopNow .captureStop).captureStream
        command := (s.doneAs s.counted.stopNow .captureStop).command
        report := (s.doneAs s.counted.stopNow .captureStop).report
        notices := (s.doneAs s.counted.stopNow .captureStop).notices
        eventWalker := (s.doneAs s.counted.stopNow .captureStop).eventWalker
        captureWalker := (s.doneAs s.counted.stopNow .captureStop).captureWalker
        freeCount := (s.doneAs s.counted.stopNow .captureStop).freeCount } := by
      apply State.eq_of_parts
      all_goals simp
    refine ⟨s.doneAs s.counted.stopNow .captureStop, hrow, ?_⟩
    cases hopen : s.capture.openGroup with
    | none =>
      obtain ⟨-, -, -, htimer⟩ := hlaw
      have hstop : s.counted.stopNow = s.counted.changeCapture .stopped := State.stopNow_of_none hopen
      have hcapture : (s.doneAs s.counted.stopNow .captureStop).capture = { s.capture with state := .stopped } := by
        simp [hstop]
      rw [hcapture]
      refine ⟨rfl, hopen, htimer hopen, by simp, rfl, rfl, fun _ => ⟨?_, rfl⟩, fun g hg => (by cases hg), ?_, ?_,
        State.command_doneAs hidle hv _, ?_⟩
      · simp [hstop]
      · simp [hstop, State.eventStream_changeCapture, Ne.symm hstate]
      · rw [State.isRaised_doneAs_of_ne _ _ _ (by simp), hstop]
        exact State.isRaised_changeCapture hstate
      · exact hcapture ▸ hframe
    | some g =>
      have hopen' : s.counted.capture.openGroup = some g := hopen
      have hstop : s.counted.stopNow = s.counted.closeGroup .stop := State.stopNow_of_some hopen'
      have hcapture : (s.doneAs s.counted.stopNow .captureStop).capture = s.capture.closed g .stop s.time.tick := by
        simp [hstop, State.capture_closeGroup hopen']
      have hclosed : closedState s.capture.state .stop s.capture.trigger.oneShot ≠ s.capture.state := by
        rw [closedState_stop]
        exact Ne.symm hstate
      rw [hcapture]
      refine ⟨closedState_stop _ _, rfl, rfl, by simp [CaptureUnit.closed], rfl, rfl, fun h => (by cases h), ?_, ?_, ?_,
        State.command_doneAs hidle hv _, ?_⟩
      · rintro g' ⟨rfl⟩
        refine ⟨?_, rfl⟩
        simp [hstop, State.captureStream_closeGroup hopen', OpenGroup.close]
      · rw [← closedState_stop s.capture.state s.capture.trigger.oneShot]
        simp [hstop, State.eventStream_closeGroup hopen', CaptureUnit.closed, hclosed]
      · rw [State.isRaised_doneAs_of_ne _ _ _ (by simp), hstop]
        exact State.isRaised_closeGroup hopen' .stop hclosed
      · exact hcapture ▸ hframe
  case atEnd =>
    have hlaw' : s.counted.groupLaw := hlaw
    have hstop : s.counted.stopAtGroupEnd =
        s.counted.changeCapture (if s.capture.openGroup.isSome then .stopping else .stopped) :=
      State.stopAtGroupEnd_eq hlaw' hstate
    have hbody := bodyCaptureStop_atGroupEnd (s := s.counted) hend hstate (s.command.count + 1)
    have hv : s.counted.stopAtGroupEnd.command = s.counted.command := by simp
    have hnew : s.capture.state ≠ (if s.capture.openGroup.isSome then CaptureState.stopping else .stopped) := by
      obtain h | h := hstate <;> rw [h] <;> split <;> simp
    refine ⟨s.doneAs s.counted.stopAtGroupEnd .captureStop, ?_, ?_, ?_, ?_, ?_, State.command_doneAs hidle hv _⟩
    · rw [exec_captureStopAtGroupEnd]
      exact event_command_ends hready .captureStop hbody
    · simp [hstop]
    · rw [State.isRaised_doneAs_of_ne _ _ _ (by simp), hstop]
      exact State.isRaised_changeCapture hnew
    · apply State.eq_of_parts
      case captureWalker =>
        exact State.captureWalker_doneAs hsettled (by simp)
          (by simp [hstop]) (by simp) _
      case captureStream => simp [hstop]
      all_goals simp
    · simp [hstop, State.eventStream_changeCapture, hnew.symm]

end Sys2Proof.Machine
end

section
/-! SUPPORT. The last commands that end DONE in their own event: MARK (R85), ACK (R141), STATS (R48), SET_TIMING (R89) and
RECORD_RESET (R144). -/

namespace Sys2Proof.Machine

/-! ## MARK (R85) -/

theorem exec_mark (p : Privilege) (s : State) : exec (.mark p) s = event s.live (deliverCommand .mark p) s := rfl

theorem bodyMark_of_stream {s : State} {i : StreamId} (hi : streamArg (s.arg 1) = some i) (n : BitVec 8) :
    bodyMark n s = (s.offer i (markRecord i (s.arg 2) s.time.tick)).answer .mark .done n := by
  simp only [bodyMark, hi]

theorem markRecord_eq (i : StreamId) (value tick : Word) : markRecord i value tick =
    if i = .event then .eventMark value tick else .captureMark value (tick.setWidth 16) := by
  cases i <;> rfl

/-- R91: an offer that changes the lost count dirties the stream's section. -/
theorem State.isDirty_offer_of_lost_ne {s : State} {i : StreamId} {r : Record}
    (h : ((s.offer i r).stream i).lost ≠ (s.stream i).lost) : (s.offer i r).isDirty i.reportSection = true := by
  unfold State.offer at h ⊢
  dsimp only at h ⊢
  split
  next haccepts =>
    rw [if_pos haccepts] at h
    split
    next hlost =>
      rw [if_pos hlost] at h
      simp at h
    · simp
  next haccepts =>
    rw [if_neg haccepts, State.stream_countLost, if_pos ⟨rfl, by simp⟩] at h
    have hne : min Config.countMax ((s.stream i).lost + 1) ≠ (s.stream i).lost := h
    simp [State.countLost, hne]

theorem State.stream_doneAs (s v : State) (c : Command) (i : StreamId) : (s.doneAs v c).stream i = v.stream i := by
  cases i <;> simp [State.stream]

/-- Settles O43: one offer to the named stream, and the judgement behind it. -/
theorem markIsOfferedToTheNamedStream : Obligations.MarkIsOfferedToTheNamedStream := by
  intro s i hready harg
  have ⟨_, hidle, _⟩ := hready
  have hi : streamArg (s.counted.arg 1) = some i := (streamArg_eq_some_iff _ i).2 harg
  let mark := markRecord i (s.arg 2) s.time.tick
  have hv : (s.counted.offer i mark).command = s.counted.command := by simp
  have hstream : s.counted.stream i = s.stream i := by cases i <;> rfl
  refine ⟨s.doneAs (s.counted.offer i mark) .mark, ?_, ?_, ?_, ?_, ?_, ?_, ?_, State.command_doneAs hidle hv _⟩
  · rw [exec_mark]
    exact event_command_ends hready .mark (bodyMark_of_stream hi _)
  · rw [← markRecord_eq, State.stream_doneAs, State.stream_offer_self, hstream]
    rfl
  · rw [← markRecord_eq, State.isRaised_doneAs_of_ne _ _ _ (by cases i <;> simp [StreamId.lossNotice]),
      State.isRaised_offer, hstream]
    simp [mark]
    rfl
  · intro hlost
    rw [State.stream_doneAs, ← hstream] at hlost
    exact State.isDirty_doneAs_of_isDirty (State.isDirty_offer_of_lost_ne hlost) s .mark
  · rintro rfl
    simp
  · rintro rfl
    simp
  · apply State.eq_of_parts
    all_goals simp

/-! ## ACK (R141, R165) -/

theorem exec_ack (p : Privilege) (s : State) : exec (.ack p) s = event s.live (deliverCommand .ack p) s := rfl

/-- `clearNotices` as one update: the notices section (bit 1) is dirty if a notice was cleared. -/
theorem State.clearNotices_eq (s : State) (mask : BitVec 13) :
    s.clearNotices mask = { s with
      notices := { s.notices with raw := s.notices.raw &&& ~~~mask }
      report := { s.report with
        dirty := s.report.dirty ||| (if s.notices.raw &&& mask = 0 then 0 else 0x02) } } := by
  rw [State.clearNotices, State.markDirtyIf_eq]
  by_cases h : s.notices.raw &&& mask = 0
  · simp [h]
  · simp only [bne_iff_ne, ne_eq, h, not_false_eq_true, if_true, if_false]
    rfl

theorem bodyAck_counted {s : State} (h : (s.arg 1).toNat < 2 ^ 13) :
    bodyAck (s.command.count + 1) s.counted = (s.completed 0x0B 1).clearNotices ((s.arg 1).setWidth 13) := by
  have hmask : noticeMaskArg (s.counted.arg 1) = some ((s.arg 1).setWidth 13) := noticeMaskArg_of_lt h
  simp only [bodyAck, hmask]
  exact congrArg (fun u => State.clearNotices u ((s.arg 1).setWidth 13)) (State.setResult_counted s 0x0B .done)

/-- A mask that shares no notice with a set clears nothing of it. -/
theorem and_not_of_and_eq_zero {n : Nat} {x m : BitVec n} (h : x &&& m = 0) : x &&& ~~~m = x := by
  refine BitVec.eq_of_getLsbD_eq fun j hj => ?_
  have hbit : (x &&& m).getLsbD j = false := by
    rw [h]
    simp
  rw [BitVec.getLsbD_and] at hbit
  rw [BitVec.getLsbD_and, BitVec.getLsbD_not]
  cases hx : x.getLsbD j
  · rfl
  · rw [hx, Bool.true_and] at hbit
    rw [hbit, decide_eq_true hj]
    rfl

/-- Settles O44: the account of DONE, and then the mask over the raw set. -/
theorem ackClearsTheNamedNotices : Obligations.AckClearsTheNamedNotices := by
  intro s hready hmask
  let t := (s.completed 0x0B 1).clearNotices ((s.arg 1).setWidth 13)
  have ht : t = { s with
      command := { s.command with
        count := s.command.count + 1
        result := { code := 0x0B, result := 1, fieldIndex := 0, number := s.command.count + 1 } }
      notices := { s.notices with raw := (s.notices.raw ||| 0x400) &&& ~~~ (s.arg 1).setWidth 13 }
      report := { s.report with
        dirty := s.report.dirty ||| 0x01 ||| (if s.notices.raw.getLsbD 10 then 0 else 0x02) |||
          (if (s.notices.raw ||| 0x400) &&& (s.arg 1).setWidth 13 = 0 then 0 else 0x02) } } :=
    State.clearNotices_eq ..
  refine ⟨t, ?_, ?_, ?_, ?_, ?_⟩
  · exact event_command_of_frame hready .ack (bodyAck_counted hmask) (by simp [t, State.completed])
      (by simp [t, State.completed]) (by simp [t, State.completed]) (by simp [t, State.completed])
      (by simp [t, State.completed]) (by simp [t, State.completed])
  · rw [ht]
  · rw [ht]
    have hnotices (x : BitVec 8) (b c : Bool) :
        (x ||| 0x01 ||| (if b then 0 else 0x02) ||| (if c then 0 else 0x02)) ||| 0x02 = x ||| 0x03 := by
      cases b <;> cases c <;> simp [BitVec.or_assoc]
    have := hnotices s.report.dirty (s.notices.raw.getLsbD 10)
      (decide ((s.notices.raw ||| 0x400) &&& (s.arg 1).setWidth 13 = 0))
    simpa only [decide_eq_true_eq] using this
  · rw [ht]
    intro hchanged
    dsimp only at hchanged ⊢
    by_cases hraised : s.notices.raw.getLsbD 10 = true
    · have hsame : s.notices.raw ||| 0x400 = s.notices.raw := or_mask_of_getLsbD _ hraised
      rw [hsame] at hchanged ⊢
      have hshared : s.notices.raw &&& (s.arg 1).setWidth 13 ≠ 0 := fun h => hchanged (and_not_of_and_eq_zero h)
      rw [if_neg hshared, BitVec.getLsbD_or]
      simp
    · rw [if_neg hraised, BitVec.getLsbD_or, BitVec.getLsbD_or]
      simp
  · rw [ht]

/-! ## STATS (R48) -/

theorem exec_stats (p : Privilege) (s : State) : exec (.stats p) s = event s.live (deliverCommand .stats p) s := rfl

/-- R48: the saturation flag of the snapshot. -/
theorem State.countsSaturated_iff (s : State) :
    s.countsSaturated = true ↔ 65535 ∈ s.policy.slotCounts.toList ∨ s.denial.defaultCount = 65535 := by
  simp only [State.countsSaturated, Bool.or_eq_true, List.any_eq_true, beq_iff_eq, Config.countMax]
  refine or_congr ⟨?_, fun h => ⟨_, h, rfl⟩⟩ Iff.rfl
  rintro ⟨n, hn, rfl⟩
  exact hn

/-- Settles O47: the snapshot is taken of the counts as they stand, and cleared behind it. -/
theorem statsTakesTheSnapshot : Obligations.StatsTakesTheSnapshot := by
  intro s hready haligned hlast hclear
  have haddress : statsAddressOk (s.arg 1) = true := (statsAddressOk_iff _).2 ⟨haligned, hlast⟩
  let t : State := { s with
    command := { s.command with
      count := s.command.count + 1
      running := some { code := 0x0F, number := s.command.count + 1, stream := none }
      stats := some (s.statsSnapshot (s.arg 1)) }
    policy := if s.arg 2 = 1 then { s.policy with slotCounts := Vector.replicate 32 0 } else s.policy
    denial := if s.arg 2 = 1 then { s.denial with defaultCount := 0 } else s.denial }
  have hbody : Command.stats.body (s.command.count + 1) s.counted = t := by
    simp only [Command.body, bodyStats, State.arg_counted, haddress, hclear, and_self, if_true, t]
    by_cases hone : s.arg 2 = 1
    · simp only [hone, if_true]
      rfl
    · simp only [hone, if_false]
      rfl
  refine ⟨t, s.statsSnapshot (s.arg 1), ?_, rfl, s.countsSaturated_iff, rfl⟩
  rw [exec_stats]
  exact event_command_of_frame hready .stats hbody rfl rfl rfl rfl rfl rfl

/-! ## RECORD_RESET (R144) -/

theorem exec_recordReset (p : Privilege) (s : State) :
    exec (.recordReset p) s = event s.live (deliverCommand .recordReset p) s := rfl

theorem State.capture_resetRecording (s : State) : s.resetRecording.capture = s.capture.recordReset := by
  simp [State.resetRecording, State.resetCapture]

theorem IssueEntry.voidWalker_eq (e : IssueEntry) :
    e.voidWalker = if e.requester = .event ∨ e.requester = .capture then { e with voided := true } else e := by
  obtain ⟨requester, isWrite, beats, voided⟩ := e
  cases requester <;> simp [IssueEntry.voidWalker]

theorem State.arbiter_resetRecording (s : State) : s.resetRecording.arbiter = { s.arbiter with
    issued := s.arbiter.issued.map fun e =>
      if e.requester = .event ∨ e.requester = .capture then { e with voided := true } else e } := by
  simp only [State.resetRecording, State.voidWalkers, ← IssueEntry.voidWalker_eq]
  simp [State.resetCapture, State.resetWalker, State.resetStream]

theorem State.settled_resetRecording (s : State) : s.resetRecording.settled = true := by
  rw [State.settled_iff]
  intro i
  rw [State.walker_resetRecording]
  exact Walker.settled_of_not_filling (by simp [Walker.reset]) ..

/-- R136: what an answer makes of the notices and of the report unit. -/
theorem State.notices_answer (s : State) (c : Command) (r : Result) (n : BitVec 8) :
    (s.answer c r n).notices = { s.notices with raw := s.notices.raw ||| 0x400 } := by
  rw [State.answer, State.setResult_eq]
  rfl

theorem State.report_answer (s : State) (c : Command) (r : Result) (n : BitVec 8) :
    (s.answer c r n).report = { s.report with dirty := (s.answer c r n).report.dirty } := by
  rw [State.answer, State.setResult_eq]

/-- R159: RECORD_RESET marks sections and does nothing else to the report unit. -/
theorem State.report_resetRecording (s : State) :
    s.resetRecording.report = { s.report with dirty := s.resetRecording.report.dirty } := by
  simp only [State.resetRecording, State.resetCapture, State.resetWalker, State.resetStream, State.moveWalker,
    State.markDirtyIf_eq]
  simp

/-- Settles O49: no walker is left at rest, so the judgement finds nothing. -/
theorem recordResetRestartsTheRecordingSide : Obligations.RecordResetRestartsTheRecordingSide := by
  intro s hready
  have ⟨_, hidle, _⟩ := hready
  let v := s.counted.resetRecording
  have hsettled : (v.answer .recordReset .done (s.command.count + 1)).settled = true := by
    rw [State.settled_congr (s := v) (by simp) (by simp) (by simp) (by simp) (by simp) (by simp)]
    exact State.settled_resetRecording s.counted
  have ht : s.doneAs v .recordReset = v.answer .recordReset .done (s.command.count + 1) :=
    State.settle_of_settled hsettled
  have hv : v.command = s.counted.command := by simp [v]
  have hwalkers (i : StreamId) : (s.doneAs v .recordReset).walker i = Walker.reset := by
    rw [ht, ← State.walker_resetRecording s.counted i]
    exact State.walker_congr (by simp [v]) (by simp [v]) i
  refine ⟨s.doneAs v .recordReset, ?_, fun i => ?_, hwalkers, ?_, ?_, ?_, State.command_doneAs hidle hv _, ?_⟩
  · rw [exec_recordReset]
    exact event_command_ends hready .recordReset rfl
  · rw [State.stream_doneAs]
    exact State.stream_resetRecording s.counted i
  · simp [v, State.capture_resetRecording, CaptureUnit.recordReset]
  · simp [v, State.arbiter_resetRecording]
  · rw [ht, State.notices_answer]
    simp [v]
  · apply State.eq_of_parts
    case report =>
      rw [ht, State.report_answer, State.report_resetRecording]
      simp
    case freeCount =>
      rw [ht]
      simp [v]
    all_goals simp [v]

end Sys2Proof.Machine
end

section
/-! SUPPORT. Commands whose event the judgement of the walkers may decide: SET_TIMING (R89, R90), SET_CHAIN with address 0, an
abort (R110, R114), and FLUSH (R108). -/

namespace Sys2Proof.Machine

/-! ## Dirty flags through a judgement -/

theorem State.isDirty_finish_of_ne (s : State) (w : Option StreamId) (r : Result) (f : Nat) {d : Section}
    (hresult : d ≠ .result) (hnotices : d ≠ .notices) : (s.finish w r f).isDirty d = s.isDirty d := by
  unfold State.finish
  split
  · split
    · rw [State.isDirty_setResult, decide_eq_false hresult, decide_eq_false hnotices]
      simp
      rfl
    · rfl
  · rfl

theorem State.isDirty_settleWalker_of_ne (s : State) (i : StreamId) {d : Section} (hresult : d ≠ .result)
    (hnotices : d ≠ .notices) (hstream : d ≠ i.reportSection) : (s.settleWalker i).isDirty d = s.isDirty d := by
  have hflush : (s.settleFlush i).isDirty d = s.isDirty d := by
    unfold State.settleFlush State.endFlush
    split
    · rw [State.isDirty_finish_of_ne _ _ _ _ hresult hnotices, State.isDirty_setWalker]
    · rfl
  have hclose (u : State) (b : Bool) : (u.settleClose i b).isDirty d = u.isDirty d := by
    unfold State.settleClose State.closeBuffer
    dsimp only
    repeat' split
    all_goals simp [hstream]
  unfold State.settleWalker
  dsimp only
  split
  · rw [hclose]
    exact hflush
  · rw [hclose, hflush]

/-- The judgement dirties the result, the notices and the two streams' sections at most. -/
theorem State.isDirty_settle_of_ne (s : State) {d : Section} (hresult : d ≠ .result) (hnotices : d ≠ .notices)
    (hstream : ∀ i : StreamId, d ≠ i.reportSection) : s.settle.isDirty d = s.isDirty d := by
  rw [State.settle, State.isDirty_settleWalker_of_ne _ _ hresult hnotices (hstream _),
    State.isDirty_settleWalker_of_ne _ _ hresult hnotices (hstream _)]

/-! ## SET_TIMING (R89, R90) -/

theorem exec_setTiming (p : Privilege) (s : State) : exec (.setTiming p) s = event s.live (deliverCommand .setTiming p) s := rfl

/-- The time base that SET_TIMING sets. -/
def State.timingSet (s : State) : TimeBase :=
  { tick := s.time.tick, divider := (s.arg 1).toNat, prescale := 0, eventLinger := (s.arg 2).toNat
    captureLinger := (s.arg 3).toNat, captureUrgent := (s.arg 4).toNat }

/-- The counted command's state with the time base that SET_TIMING sets. -/
def State.timed (s : State) : State := { s.counted with time := s.timingSet }

@[simp] theorem State.timed_frame (s : State) :
    s.timed.anchorSel = s.anchorSel ∧ s.timed.resetAsserted = s.resetAsserted ∧ s.timed.queue = s.queue ∧
      s.timed.policy = s.policy ∧ s.timed.denial = s.denial ∧ s.timed.notices = s.notices ∧
      s.timed.report = s.report ∧ s.timed.capture = s.capture ∧ s.timed.eventStream = s.eventStream ∧
      s.timed.captureStream = s.captureStream ∧ s.timed.eventWalker = s.eventWalker ∧
      s.timed.captureWalker = s.captureWalker ∧ s.timed.freeCount = s.freeCount ∧ s.timed.arbiter = s.arbiter ∧
      s.timed.memoryPort = s.memoryPort ∧ s.timed.processorPort = s.processorPort ∧ s.timed.pending = s.pending := by
  simp [State.timed]

theorem State.time_timed (s : State) : s.timed.time = s.timingSet := rfl

theorem State.command_timed (s : State) : s.timed.command = s.counted.command := rfl

theorem bodySetTiming_of_ok {s : State} (h : s.counted.timingArgsOk = true) (n : BitVec 8) :
    bodySetTiming n s.counted = s.timed.answer .setTiming .done n := by
  rw [bodySetTiming, if_pos h]
  rfl

theorem State.lingerSetting_timed (s : State) (i : StreamId) :
    s.timed.lingerSetting i = (s.arg (if i = .event then 2 else 3)).toNat := by
  cases i <;> rfl

/-- R103: a resting walker whose age is at its setting closes LINGER, where no other condition holds. -/
theorem Walker.judged_of_linger {w : Walker} {fifo : List Record} {setting : Nat} (hrest : w.atRest = true)
    (hflush : w.flushDone = false) (hfull : w.fullCondition fifo = false) (hlinger : w.lingerCondition setting = true)
    (b : Bool) : w.flushed.judged fifo setting b = w.closedBy .linger := by
  rw [Walker.flushed_of_not_flushEnds (Walker.flushEnds_of_not_flushDone hflush)]
  simp [Walker.judged, hrest, hflush, hfull, hlinger]

theorem Walker.conditions_of_settled {w : Walker} {fifo : List Record} {setting : Nat} (h : w.settled fifo setting = true)
    (hrest : w.atRest = true) :
    w.flushDone = false ∧ w.fullCondition fifo = false ∧ w.lingerCondition setting = false := by
  simp only [Walker.settled, hrest, Bool.true_and, Bool.not_eq_true', Bool.or_eq_false_iff, and_assoc] at h
  exact h

/-- R90, R103: the walker whose age is at the new setting closes LINGER in the event of the SET_TIMING. -/
theorem State.walker_doneAs_timed_of_linger {s : State} (hsettled : s.settled = true) {i : StreamId}
    (hrest : (s.walker i).atRest = true)
    (hlinger : (s.walker i).lingerCondition (s.arg (if i = .event then 2 else 3)).toNat = true) :
    (s.doneAs s.timed .setTiming).walker i = (s.walker i).closedBy .linger := by
  have hwalker : (s.timed.answer .setTiming .done (s.command.count + 1)).walker i = s.walker i :=
    State.walker_congr (by simp) (by simp) i
  have hsetting : (s.timed.answer .setTiming .done (s.command.count + 1)).lingerSetting i =
      (s.arg (if i = .event then 2 else 3)).toNat :=
    (State.lingerSetting_congr (by simp) i).trans (s.lingerSetting_timed i)
  have hfifo : ((s.timed.answer .setTiming .done (s.command.count + 1)).stream i).fifo = (s.stream i).fifo := by
    cases i <;> simp [State.stream]
  obtain ⟨hflush, hfull, -⟩ := Walker.conditions_of_settled ((State.settled_iff s).1 hsettled i) hrest
  obtain ⟨b, hb⟩ := (s.timed.answer .setTiming .done (s.command.count + 1)).walker_settle i
  rw [hwalker, hsetting, hfifo, Walker.judged_of_linger hrest hflush hfull hlinger] at hb
  exact hb

/-- Settles O48: the new settings can make the LINGER condition hold, and the judgement closes there. -/
theorem setTimingSetsTheFourValues : Obligations.SetTimingSetsTheFourValues := by
  intro s hready hmin hmax hevent hcapture hlow hhigh hmod
  have ⟨_, hidle, hsettled⟩ := hready
  have hok : s.counted.timingArgsOk = true := (State.timingArgsOk_iff _).2 ⟨⟨hmin, hmax⟩, hevent, hcapture, hlow, hhigh, hmod⟩
  refine ⟨s.doneAs s.timed .setTiming, ?_, ?_, State.command_doneAs hidle s.command_timed _, ?_, ?_, ?_⟩
  · rw [exec_setTiming]
    exact event_command_ends hready .setTiming (bodySetTiming_of_ok hok _)
  · simp [State.time_timed, State.timingSet]
  · intro i hfilling hinFlight hfill hsetting hage
    have hrest : (s.walker i).atRest = true := (Walker.atRest_iff _).2 ⟨hfilling, hinFlight⟩
    have hne : (s.arg (if i = .event then 2 else 3)).toNat ≠ 0 := fun h => hsetting (BitVec.eq_of_toNat_eq h)
    have hlinger : (s.walker i).lingerCondition (s.arg (if i = .event then 2 else 3)).toNat = true := by
      simp [Walker.lingerCondition, hfill, hne, hage]
    rw [State.walker_doneAs_timed_of_linger hsettled hrest hlinger]
    exact ⟨rfl, rfl⟩
  · rw [State.doneAs, State.isDirty_settle_of_ne _ (by simp) (by simp) (by rintro (_ | _) <;> simp [StreamId.reportSection]),
      State.answer, State.isDirty_setResult]
    simp [State.isDirty]
  · apply State.eq_of_parts
    all_goals simp

/-! ## Aborts (R110, R114) -/

theorem exec_setChainAbort (p : Privilege) (s : State) :
    exec (.setChainAbort p) s = event s.live (deliverCommand .setChain p) s := rfl

theorem bodySetChain_of_abort {s : State} {i : StreamId} (hi : streamArg (s.arg 1) = some i) (hzero : s.arg 2 = 0)
    (n : BitVec 8) : bodySetChain n s = (s.startRunning .setChain n (some i)).abortWalker i := by
  simp only [bodySetChain, hi, hzero]
  simp

/-- R110: a walker that owes nothing completes its abort at once. -/
def Walker.abortsAtOnce (w : Walker) : Prop :=
  w.state = .idle ∨ w.state = .ended ∨ w.state = .faulted ∨ w.state = .waiting ∨
    (w.state = .fetching ∧ w.inFlight = none) ∨ (w.state = .filling ∧ w.inFlight = none ∧ w.fillOffset = 0)

/-- R110: the abort of a walker clears the error of a former one, and then completes, closes what is filled, or waits. -/
theorem State.abortWalker_of_atOnce {s : State} {i : StreamId} (h : (s.walker i).abortsAtOnce) :
    s.abortWalker i = (s.setWalker i { s.walker i with abortError := false }).completeAbort i := by
  obtain h | h | h | h | ⟨h, hidle⟩ | ⟨h, hidle, hempty⟩ := h
  all_goals unfold State.abortWalker
  · simp only [h]
  · simp only [h]
  · simp only [h]
  · simp only [h]
  · simp [h, hidle]
  · simp [h, hidle, State.abortFilled, hempty]

theorem State.abortWalker_of_filled {s : State} {i : StreamId} (h : (s.walker i).state = .filling)
    (hidle : (s.walker i).inFlight = none) (hfill : 0 < (s.walker i).fillOffset) :
    s.abortWalker i = (s.setWalker i { s.walker i with abortError := false }).moveWalker i
      { s.walker i with state := .aborting, closeReason := some .abort, abortError := false } := by
  unfold State.abortWalker
  simp [h, hidle, State.abortFilled, hfill]

theorem State.abortWalker_of_waits {s : State} {i : StreamId}
    (h : (((s.walker i).state = .fetching ∨ (s.walker i).state = .filling) ∧ (s.walker i).inFlight.isSome = true) ∨
      (s.walker i).state = .closing) :
    s.abortWalker i = (s.setWalker i { s.walker i with abortError := false }).moveWalker i
      { s.walker i with state := .aborting, abortError := false } := by
  obtain ⟨h | h, hbusy⟩ | h := h
  all_goals unfold State.abortWalker
  · simp [h, hbusy]
  · simp [h, hbusy]
  · simp [h]

/-! ## A completion, as the obligations state it -/

/-- R135: the running command's completion, from a state with the same command unit. -/
theorem commandCompletes_finish {s u : State} (hu : u.command = s.command) (i : StreamId) (r : Result) :
    CommandCompletes s (u.finish (some i) r 0) i r.code := by
  intro c hc hstream
  rw [← hu] at hc
  refine ⟨?_, ?_, ?_⟩
  · rw [State.finish_of_running hc hstream, ← hu]
    rfl
  · simp only [State.finish, hc, hstream, if_true, State.isDirty_setResult]
    simp
  · simp only [State.finish, hc, hstream, if_true, State.isRaised_setResult]
    simp

/-- The judgement leaves a completion: the unit is idle. -/
theorem CommandCompletes.settle {s t : State} {i : StreamId} {r : BitVec 4} (h : CommandCompletes s t i r) :
    CommandCompletes s t.settle i r := by
  intro c hc hstream
  obtain ⟨hcommand, hdirty, hraised⟩ := h c hc hstream
  have hidle : t.command.running = none := by rw [hcommand]
  exact ⟨(State.settle_of_idle hidle).1.trans hcommand, State.isDirty_settle_of_isDirty hdirty,
    State.isRaised_settle_of_isRaised hraised⟩

/-! ## The completion of an abort (R114) -/

theorem State.walker_countLost (s : State) (i j : StreamId) (k : Nat) : (s.countLost i k).walker j = s.walker j :=
  State.walker_congr (by simp) (by simp) j

theorem State.walker_completeAbort (s : State) (i j : StreamId) :
    (s.completeAbort i).walker j =
      if j = i then { s.walker i with
          state := .idle, current := 0, copy := none, fillOffset := 0, lingerAge := 0, closeReason := none, inFlight := none }
      else s.walker j := by
  simp only [State.completeAbort, State.walker_finish, State.walker_moveWalker, State.walker_countLost,
    State.walker_setStream]

theorem State.stream_completeAbort (s : State) (i j : StreamId) :
    (s.completeAbort i).stream j =
      if j = i then { (s.stream i).afterLosing (s.stream i).fifo.length with fifo := [] } else s.stream j := by
  simp only [State.completeAbort, State.stream_finish, State.stream_moveWalker, State.stream_countLost,
    State.stream_setStream, if_true]
  by_cases hj : j = i
  · by_cases hk : (s.stream i).fifo = []
    · simp [hj, hk, RecordStream.afterLosing]
    · simp [hj, hk, RecordStream.afterLosing]
  · simp [hj]

theorem State.isRaised_completeAbort (s : State) (i : StreamId) {m : Notice} (h : m ≠ .commandDone) :
    (s.completeAbort i).isRaised m =
      (s.isRaised m || (decide ((s.stream i).fifo.length ≠ 0) && decide (m = i.lossNotice))) := by
  simp only [State.completeAbort, State.isRaised_finish_of_ne _ _ _ _ h, State.isRaised_moveWalker,
    State.isRaised_countLost, State.isRaised_setStream]

theorem commandCompletes_completeAbort {s u : State} (hu : u.command = s.command) (i : StreamId) :
    CommandCompletes s (u.completeAbort i) i (if (u.walker i).abortError then 9 else 1) := by
  have hr : (if (u.walker i).abortError then (9 : BitVec 4) else 1) =
      (if (u.walker i).abortError then Result.memerr else .done).code := by
    cases (u.walker i).abortError <;> rfl
  rw [hr]
  exact commandCompletes_finish (by simpa using hu) i _

/-! ## SET_CHAIN with address 0 (R110) -/

theorem State.walker_startRunning (s : State) (c : Command) (n : BitVec 8) (x : Option StreamId) (i : StreamId) :
    (s.startRunning c n x).walker i = s.walker i := State.walker_congr (by simp) (by simp) i

theorem State.stream_startRunning (s : State) (c : Command) (n : BitVec 8) (x : Option StreamId) (i : StreamId) :
    (s.startRunning c n x).stream i = s.stream i := by
  cases i <;> simp [State.stream]

theorem State.stream_counted (s : State) (i : StreamId) : s.counted.stream i = s.stream i := by
  cases i <;> simp [State.stream]

/-- An abort speaks of its own walker and stream only. -/
theorem State.abortWalker_other (s : State) {i j : StreamId} (h : j ≠ i) :
    (s.abortWalker i).walker j = s.walker j ∧ (s.abortWalker i).stream j = s.stream j := by
  unfold State.abortWalker State.abortFilled
  dsimp only
  repeat' split
  all_goals simp [State.walker_completeAbort, State.stream_completeAbort, h]

/-- R110: no walker is left FILLING by its abort. -/
theorem State.state_abortWalker_ne_filling (s : State) (i : StreamId) : ((s.abortWalker i).walker i).state ≠ .filling := by
  unfold State.abortWalker State.abortFilled
  dsimp only
  repeat' split
  all_goals simp [State.walker_completeAbort, *]

/-- The state in which an abort's effect is taken: the command counted and running. -/
def State.aborts (s : State) (i : StreamId) : State := s.counted.startRunning .setChain (s.command.count + 1) (some i)

theorem State.walker_aborts (s : State) (i j : StreamId) : (s.aborts i).walker j = s.walker j :=
  (State.walker_startRunning ..).trans (s.walker_counted j)

theorem State.stream_aborts (s : State) (i j : StreamId) : (s.aborts i).stream j = s.stream j :=
  (State.stream_startRunning ..).trans (s.stream_counted j)

theorem State.running_aborts (s : State) (i : StreamId) :
    (s.aborts i).command.running = some { code := 0x05, number := s.command.count + 1, stream := some i } := rfl

theorem exec_setChainAbort_of_ready {s : State} (hready : s.ready) {i : StreamId}
    (harg : (s.arg 1).toNat = if i = .event then 0 else 1) (hzero : s.arg 2 = 0) :
    exec (.setChainAbort .supervisor) s = .next ((s.aborts i).abortWalker i) := by
  have ⟨_, _, hsettled⟩ := hready
  have hi : streamArg (s.counted.arg 1) = some i := (streamArg_eq_some_iff _ i).2 harg
  have hbody : Command.setChain.body (s.command.count + 1) s.counted = (s.aborts i).abortWalker i :=
    bodySetChain_of_abort hi hzero _
  have hsettled' : ((s.aborts i).abortWalker i).settled = true := by
    refine State.settled_of_walker i hsettled (State.state_abortWalker_ne_filling _ i) fun j hj => ?_
    obtain ⟨hwalker, hstream⟩ := (s.aborts i).abortWalker_other hj
    have htime : ((s.aborts i).abortWalker i).time = s.time := by simp [State.aborts]
    exact ⟨hwalker.trans (s.walker_aborts i j), by rw [hstream, State.stream_aborts], State.lingerSetting_congr htime j⟩
  rw [exec_setChainAbort, event_command hready, hbody]
  exact congrArg _ (State.settle_of_settled hsettled')

/-- The parts of the command unit that an abort or a flush may change. -/
theorem CommandUnit.eq_of_parts {a b : CommandUnit} (hshadow : a.shadow = b.shadow) (hstats : a.stats = b.stats)
    (hloader : a.loader = b.loader) : a = { b with count := a.count, running := a.running, result := a.result } := by
  cases a
  cases b
  simp only at hshadow hstats hloader
  rw [hshadow, hstats, hloader]

/-- Settles O38: by the way the walker takes its abort; none leaves it FILLING, so nothing is judged after it. -/
theorem abortCompletesOrClosesFirst : Obligations.AbortCompletesOrClosesFirst := by
  intro s i hready harg hzero
  have hwalker : (s.aborts i).walker i = s.walker i := s.walker_aborts i i
  have hstream : (s.aborts i).stream i = s.stream i := s.stream_aborts i i
  refine ⟨(s.aborts i).abortWalker i, exec_setChainAbort_of_ready hready harg hzero, ?_, fun hstate => ?_,
    fun hstate hidle hfill => ?_, fun hstate => ?_, fun j hj => ?_, ?_⟩
  · simp [State.aborts, State.counted]
  · rw [State.abortWalker_of_atOnce (by rw [hwalker]; exact hstate), hwalker]
    obtain ⟨hcommand, -, -⟩ := commandCompletes_completeAbort (s := s.aborts i)
      (u := (s.aborts i).setWalker i { s.walker i with abortError := false }) (by simp) i _ (s.running_aborts i) rfl
    have hloss : i.lossNotice ≠ .commandDone := by cases i <;> simp [StreamId.lossNotice]
    rw [State.walker_completeAbort, State.stream_completeAbort, State.isRaised_completeAbort _ _ hloss, hcommand]
    simp only [State.walker_setWalker, State.stream_setWalker, hstream, if_true]
    refine ⟨trivial, rfl, trivial, fun hne => ?_, fun hnil => ?_, fun hne => ?_, trivial, trivial, trivial, trivial, trivial, trivial⟩
    · simp [RecordStream.afterLosing, hne]
    · generalize s.stream i = x at hnil ⊢
      cases x
      cases hnil
      rfl
    · simp [hne]
  · rw [State.abortWalker_of_filled (by rw [hwalker]; exact hstate) (by rw [hwalker]; exact hidle)
      (by rw [hwalker]; exact hfill), hwalker]
    simp only [State.walker_moveWalker, State.stream_moveWalker, State.stream_setWalker, hstream, if_true]
    exact ⟨by simpa using s.running_aborts i, trivial, trivial, trivial, trivial⟩
  · rw [State.abortWalker_of_waits (by rw [hwalker]; exact hstate), hwalker]
    simp only [State.walker_moveWalker, State.stream_moveWalker, State.stream_setWalker, hstream, if_true]
    exact ⟨by simpa using s.running_aborts i, trivial, trivial⟩
  · obtain ⟨hw, hs⟩ := (s.aborts i).abortWalker_other hj
    exact ⟨hw.trans (s.walker_aborts i j), hs.trans (s.stream_aborts i j)⟩
  · have hcommand : ((s.aborts i).abortWalker i).command = { s.command with
        count := ((s.aborts i).abortWalker i).command.count, running := ((s.aborts i).abortWalker i).command.running
        result := ((s.aborts i).abortWalker i).command.result } :=
      CommandUnit.eq_of_parts (by simp [State.aborts, State.counted]) (by simp [State.aborts, State.counted])
        (by simp [State.aborts, State.counted])
    apply State.eq_of_parts
    case command => exact hcommand
    all_goals simp [State.aborts]

/-! ## FLUSH (R108) -/

theorem exec_flush (p : Privilege) (s : State) : exec (.flush p) s = event s.live (deliverCommand .flush p) s := rfl

theorem bodyFlush_of_filling {s : State} {i : StreamId} (hi : streamArg (s.arg 1) = some i)
    (h : (s.walker i).state = .filling) (n : BitVec 8) :
    bodyFlush n s = (s.startRunning .flush n (some i)).setWalker i
      { s.walker i with flushCount := some ((s.stream i).fifo.length + (s.walker i).recordsInFlight) } := by
  rw [bodyFlush, hi]
  exact if_pos h

/-- A judgement draws no free choice where nowhere both FULL and LINGER hold. -/
theorem State.freeCount_settle {s : State} (h : ∀ i, ¬ ((s.walker i).flushDone = false ∧ (s.walker i).atRest = true ∧
    (s.walker i).fullCondition (s.stream i).fifo = true ∧ (s.walker i).lingerCondition (s.lingerSetting i) = true)) :
    s.settle.freeCount = s.freeCount := by
  have hcapture := h .capture
  rw [← State.settleWalker_other s (i := .event) (j := .capture) (by simp), ← State.stream_settleWalker s .event,
    ← State.lingerSetting_settleWalker s .event] at hcapture
  exact (State.freeCount_settleWalker hcapture).trans (State.freeCount_settleWalker (h .event))

/-- R108: a flush over an empty buffer at rest ends in the judgement. -/
theorem State.command_settle_of_flushEnds {s : State} {i : StreamId} (hends : (s.walker i).flushEnds = true)
    (hquiet : ∀ j, j ≠ i → s.flushQuiet j) {c : RunningCommand} (hc : s.command.running = some c)
    (hstream : c.stream = some i) :
    s.settle.command = { s.command with
      running := none, result := { code := c.code, result := 1, fieldIndex := 0, number := c.number } } := by
  have hclose (u : State) (b : Bool) : (u.settleClose i b).command = u.command := by
    unfold State.settleClose State.closeBuffer State.moveWalker
    dsimp only
    repeat' split
    all_goals simp
  have hself {u : State} (hu : (u.walker i).flushEnds = true) (hcommand : u.command = s.command) :
      (u.settleWalker i).command = { s.command with
        running := none, result := { code := c.code, result := 1, fieldIndex := 0, number := c.number } } := by
    have hflush : (u.settleFlush i).command = { s.command with
        running := none, result := { code := c.code, result := 1, fieldIndex := 0, number := c.number } } := by
      have hrunning : (u.setWalker i { u.walker i with flushCount := none }).command.running = some c := by
        simp [hcommand, hc]
      rw [State.settleFlush_eq, if_pos hu, State.endFlush, State.finish_of_running hrunning hstream]
      simp [hcommand]
      rfl
    unfold State.settleWalker
    dsimp only
    split
    · rw [hclose]
      exact hflush
    · rw [hclose, hflush]
  cases i with
  | event =>
    have hidle : (s.settleWalker .event).command.running = none := by rw [hself hends rfl]
    exact (State.settleWalker_quiet (.inl hidle)).1.trans (hself hends rfl)
  | capture =>
    exact hself (by rwa [State.settleWalker_other s (i := .event) (by simp)])
      (State.settleWalker_quiet (hquiet .event (by simp))).1

/-- R108: the walker whose flush is counted: the records in the FIFO and in flight. -/
def State.flushWalker (s : State) (i : StreamId) : Walker :=
  { s.walker i with flushCount := some ((s.stream i).fifo.length + (s.walker i).recordsInFlight) }

/-- The state in which a flush is judged: the command counted and running, and the records present counted. -/
def State.flushes (s : State) (i : StreamId) : State :=
  (s.counted.startRunning .flush (s.command.count + 1) (some i)).setWalker i (s.flushWalker i)

theorem State.walker_flushes (s : State) (i j : StreamId) :
    (s.flushes i).walker j = if j = i then s.flushWalker i else s.walker j := by
  simp only [State.flushes, State.walker_setWalker, State.walker_startRunning, State.walker_counted]

theorem State.stream_flushes (s : State) (i j : StreamId) : (s.flushes i).stream j = s.stream j := by
  simp only [State.flushes, State.stream_setWalker, State.stream_startRunning, State.stream_counted]

theorem State.lingerSetting_flushes (s : State) (i j : StreamId) : (s.flushes i).lingerSetting j = s.lingerSetting j :=
  State.lingerSetting_congr (by simp [State.flushes]) j

theorem State.running_flushes (s : State) (i : StreamId) :
    (s.flushes i).command.running = some { code := 0x07, number := s.command.count + 1, stream := some i } := by
  simp only [State.flushes, State.setWalker_command]
  rfl

theorem exec_flush_of_filling {s : State} (hready : s.ready) {i : StreamId}
    (harg : (s.arg 1).toNat = if i = .event then 0 else 1) (hstate : (s.walker i).state = .filling) :
    exec (.flush .supervisor) s = .next (s.flushes i).settle := by
  have hi : streamArg (s.counted.arg 1) = some i := (streamArg_eq_some_iff _ i).2 harg
  have hbody : Command.flush.body (s.command.count + 1) s.counted = s.flushes i := by
    refine (bodyFlush_of_filling hi (by rwa [State.walker_counted]) _).trans ?_
    rw [State.walker_counted, State.stream_counted]
    rfl
  rw [exec_flush, event_command hready, hbody]

theorem Walker.recordsInFlight_eq (w : Walker) :
    w.recordsInFlight = (match w.inFlight with | some (.burst rs) => rs.length | _ => 0) := by
  unfold Walker.recordsInFlight
  obtain _ | _ | _ | _ := w.inFlight <;> rfl

/-- The flush count is no part of a close condition but the flush's own. -/
theorem State.full_of_flushes {s : State} (h : s.settled = true) {i : StreamId} (hrest : ((s.flushes i).walker i).atRest = true) :
    ((s.flushes i).walker i).fullCondition (s.stream i).fifo = false ∧
      ((s.flushes i).walker i).lingerCondition (s.lingerSetting i) = false := by
  rw [State.walker_flushes, if_pos rfl] at hrest ⊢
  exact (Walker.conditions_of_settled ((State.settled_iff s).1 h i) hrest).2

theorem State.freeCount_settle_flushes {s : State} (h : s.settled = true) (i : StreamId) :
    (s.flushes i).settle.freeCount = s.freeCount := by
  refine (State.freeCount_settle fun j ⟨_, hrest, hfull, _⟩ => ?_).trans (by simp [State.flushes])
  rw [State.stream_flushes] at hfull
  by_cases hj : j = i
  · subst hj
    exact Bool.false_ne_true ((State.full_of_flushes h hrest).1.symm.trans hfull)
  · rw [State.walker_flushes, if_neg hj] at hrest hfull
    exact Bool.false_ne_true ((Walker.conditions_of_settled ((State.settled_iff s).1 h j) hrest).2.1.symm.trans hfull)

/-- The judgement of a flush, at the flushed walker. -/
theorem State.walker_settle_flushes (s : State) (i : StreamId) :
    ∃ b, (s.flushes i).settle.walker i = (s.flushWalker i).flushed.judged (s.stream i).fifo (s.lingerSetting i) b := by
  obtain ⟨b, hb⟩ := (s.flushes i).walker_settle i
  rw [State.walker_flushes, if_pos rfl, State.stream_flushes, State.lingerSetting_flushes] at hb
  exact ⟨b, hb⟩

theorem State.walker_settle_flushes_other {s : State} (h : s.settled = true) {i j : StreamId} (hj : j ≠ i) :
    (s.flushes i).settle.walker j = s.walker j := by
  have hwalker : (s.flushes i).walker j = s.walker j := by rw [State.walker_flushes, if_neg hj]
  exact State.walker_settle_of_same h hwalker (by rw [State.stream_flushes]) (s.lingerSetting_flushes i j)

theorem State.flushQuiet_flushes_other {s : State} (h : s.settled = true) {i j : StreamId} (hj : j ≠ i) :
    (s.flushes i).flushQuiet j := by
  refine .inr ?_
  rw [State.walker_flushes, if_neg hj]
  exact Walker.flushEnds_of_settled ((State.settled_iff s).1 h j)

/-- R108: a flush that does not end in the event leaves the unit BUSY with its stream. -/
theorem State.running_settle_flushes {s : State} (h : s.settled = true) {i : StreamId}
    (hgoes : (s.flushWalker i).flushEnds = false) :
    (s.flushes i).settle.command.running = some { code := 0x07, number := s.command.count + 1, stream := some i } := by
  have hquiet (j : StreamId) : (s.flushes i).flushQuiet j := by
    by_cases hj : j = i
    · subst hj
      exact .inr (by rwa [State.walker_flushes, if_pos rfl])
    · exact State.flushQuiet_flushes_other h hj
  rw [(State.settle_quiet hquiet).1, State.running_flushes]

theorem State.count_settle (s : State) : s.settle.command.count = s.command.count := by simp

theorem State.count_flushes (s : State) (i : StreamId) : (s.flushes i).command.count = s.command.count + 1 := by
  simp only [State.flushes, State.setWalker_command]
  rfl

/-- Settles O40: by what the count is and whether the walker is at rest. -/
theorem flushCountsTheRecordsPresent : Obligations.FlushCountsTheRecordsPresent := by
  intro s i hready harg hstate _
  have ⟨_, _, hsettled⟩ := hready
  have hresting (hidle : (s.walker i).inFlight = none) : (s.flushes i).walker i = s.flushWalker i ∧
      (s.flushWalker i).atRest = true := by
    rw [State.walker_flushes, if_pos rfl]
    exact ⟨rfl, (Walker.atRest_iff _).2 ⟨hstate, hidle⟩⟩
  refine ⟨(s.flushes i).settle, exec_flush_of_filling hready harg hstate, ?_, fun k hk => ?_,
    fun j hj => State.walker_settle_flushes_other hsettled hj, ?_⟩
  · rw [State.count_settle, State.count_flushes]
  · have hcount : (s.stream i).fifo.length + (s.walker i).recordsInFlight = k :=
      (congrArg ((s.stream i).fifo.length + ·) (Walker.recordsInFlight_eq (s.walker i))).trans hk.symm
    replace hk : (s.flushWalker i).flushCount = some k := congrArg some hcount
    obtain ⟨b, hb⟩ := s.walker_settle_flushes i
    refine ⟨fun hgoes => ?_, fun hzero hidle hfill => ?_, fun hzero hidle hfill => ?_⟩
    · have hsettles : (s.flushWalker i).settled (s.stream i).fifo (s.lingerSetting i) = true := by
        obtain hpos | hbusy := hgoes
        · have hcount : (s.flushWalker i).flushDone = false := Walker.flushDone_eq_false (by rw [hk]; simp; omega)
          cases hrest : (s.flushWalker i).atRest
          · exact Walker.settled_of_not_atRest hrest _ _
          · have h := Walker.conditions_of_settled ((State.settled_iff s).1 hsettled i) hrest
            obtain ⟨-, hfull, hlinger⟩ := h
            have hfull' : (s.flushWalker i).fullCondition (s.stream i).fifo = false := hfull
            have hlinger' : (s.flushWalker i).lingerCondition (s.lingerSetting i) = false := hlinger
            simp [Walker.settled, hcount, hfull', hlinger']
        · refine Walker.settled_of_not_atRest ?_ _ _
          have hbusy' : (s.flushWalker i).inFlight.isSome = true := hbusy
          simp [Walker.atRest, Option.isNone_eq_false_iff.2 hbusy']
      have hends := Walker.flushEnds_of_settled hsettles
      rw [Walker.flushed_of_not_flushEnds hends, Walker.judged_of_settled hsettles] at hb
      rw [hb]
      exact ⟨State.running_settle_flushes hsettled hends, hk, hstate⟩
    · have hdone : (s.flushWalker i).flushDone = true := by simp [Walker.flushDone, hk, hzero]
      have hends : (s.flushWalker i).flushEnds = false := Walker.flushEnds_of_filled hfill
      obtain ⟨hwalker, hrest⟩ := hresting hidle
      have hfull := (State.full_of_flushes hsettled (by rw [hwalker]; exact hrest)).1
      rw [hwalker] at hfull
      rw [Walker.flushed_of_not_flushEnds hends, Walker.judged, if_pos hrest, if_pos hdone, hfull] at hb
      rw [hb]
      exact ⟨State.running_settle_flushes hsettled hends, rfl, rfl⟩
    · have hdone : (s.flushWalker i).flushDone = true := by simp [Walker.flushDone, hk, hzero]
      obtain ⟨hwalker, hrest⟩ := hresting hidle
      have hends : (s.flushWalker i).flushEnds = true := by
        have hfill' : (s.flushWalker i).fillOffset = 0 := hfill
        simp [Walker.flushEnds, hrest, hdone, hfill']
      have hfull := (State.full_of_flushes hsettled (by rw [hwalker]; exact hrest))
      rw [hwalker] at hfull
      have hsettles : (s.flushWalker i).flushed.settled (s.stream i).fifo (s.lingerSetting i) = true := by
        rw [Walker.flushed, if_pos hends]
        obtain ⟨hfull, hlinger⟩ := hfull
        have hfull' : { s.flushWalker i with flushCount := none }.fullCondition (s.stream i).fifo = false := hfull
        have hlinger' : { s.flushWalker i with flushCount := none }.lingerCondition (s.lingerSetting i) = false := hlinger
        simp [Walker.settled, hfull', hlinger', Walker.flushDone]
      rw [Walker.judged_of_settled hsettles, Walker.flushed, if_pos hends] at hb
      have hcommand := State.command_settle_of_flushEnds (s := s.flushes i) (i := i) (by rw [hwalker]; exact hends)
        (fun j hj => State.flushQuiet_flushes_other hsettled hj) (s.running_flushes i) rfl
      rw [hb, hcommand]
      exact ⟨rfl, hstate, rfl, rfl⟩
  · have hcommand : (s.flushes i).settle.command = { s.command with
        count := (s.flushes i).settle.command.count, running := (s.flushes i).settle.command.running
        result := (s.flushes i).settle.command.result } :=
      CommandUnit.eq_of_parts (by simp [State.flushes, State.counted]) (by simp [State.flushes, State.counted])
        (by simp [State.flushes, State.counted])
    apply State.eq_of_parts
    case command => exact hcommand
    case freeCount => exact State.freeCount_settle_flushes hsettled i
    all_goals simp [State.flushes]

end Sys2Proof.Machine
end

section
/-! SUPPORT. The shadow written by an argument write (R131), and what the policy loader makes of an image read's answer (R149 to
R151): the fields of R172 as numbers, the checks as the lists that the obligations write them in, and the end of a load. -/

namespace Sys2Proof.Machine

/-! ## ANCHOR_ARGUMENT_WRITE (R131) -/

theorem exec_anchorArgumentWrite_of_wellFormed {s : State} (hlive : s.resetAsserted = false) {wc : WriteCompletion}
    (h : wc.wellFormed = true) : exec (.anchorArgumentWrite wc) s = .next (s.takeArguments wc).settle := by
  dsimp only [exec, execAnchorArgumentWrite]
  rw [h]
  exact event_of_enabled (State.live_of_released hlive) _

/-- Settles O30: the beats change the shadow alone, which nothing of the judgement reads. -/
theorem supervisorBeatsUpdateTheShadow : Obligations.SupervisorBeatsUpdateTheShadow := by
  intro s p m beats hlive hsettled hwell
  let wc : WriteCompletion := { privilege := p, master := m, beats := beats }
  have hquiet : (s.takeArguments wc).settle = s.takeArguments wc := by
    refine State.settle_of_settled ((State.settled_congr ?_ ?_ ?_ ?_ ?_ ?_).trans hsettled)
    all_goals simp
  refine ⟨s.takeArguments wc, (exec_anchorArgumentWrite_of_wellFormed hlive hwell).trans (congrArg _ hquiet), fun hp => ?_,
    fun hp => ?_⟩
  · refine ⟨s.shadowTakes_takeArguments wc hp, ?_⟩
    rw [State.takeArguments, if_pos hp]
  · rw [State.takeArguments, if_neg]
    rw [show wc.privilege = p from rfl, hp]
    exact fun h => Privilege.noConfusion h

/-! ## The first failing check -/

@[simp] theorem firstFailure_nil {α : Type} : firstFailure ([] : List (Bool × α)) = none := rfl

@[simp] theorem firstFailure_cons {α : Type} (failed : Bool) (a : α) (checks : List (Bool × α)) :
    firstFailure ((failed, a) :: checks) = if failed then some a else firstFailure checks := by
  cases failed <;> rfl

theorem firstFailure_append {α : Type} (xs ys : List (Bool × α)) :
    firstFailure (xs ++ ys) = (firstFailure xs).or (firstFailure ys) := by
  induction xs with
  | nil => rfl
  | cons x xs ih =>
    obtain ⟨failed, a⟩ := x
    rw [List.cons_append, firstFailure_cons, firstFailure_cons, ih]
    cases failed <;> rfl

/-! ## Fields of R172 as numbers -/

theorem toNat_extractLsb'_eq (w : Word) (start len : Nat) :
    (w.extractLsb' start len).toNat = w.toNat / 2 ^ start % 2 ^ len := by
  rw [BitVec.extractLsb'_toNat, Nat.shiftRight_eq_div_pow]

theorem field_eq_iff (w : Word) (start len k : Nat) (hk : k < 2 ^ len) :
    w.extractLsb' start len = BitVec.ofNat len k ↔ w.toNat / 2 ^ start % 2 ^ len = k := by
  rw [← BitVec.toNat_inj, toNat_extractLsb'_eq, BitVec.toNat_ofNat, Nat.mod_eq_of_lt hk]

/-- R172: a response field as a number: 0 ERROR, 1 QUIET, and else no response. -/
theorem responseField_eq (w : Word) : responseField w =
    if w.toNat / 256 % 4 = 0 then some .error else if w.toNat / 256 % 4 = 1 then some .quiet else none :=
  if_congr (field_eq_iff w 8 2 0 (by simp)) rfl (if_congr (field_eq_iff w 8 2 1 (by simp)) rfl rfl)

theorem foldField_eq (w : Word) : foldField w =
    if w.toNat / 256 % 4 = 0 then some .fold else if w.toNat / 256 % 4 = 1 then some .strict else none :=
  if_congr (field_eq_iff w 8 2 0 (by simp)) rfl (if_congr (field_eq_iff w 8 2 1 (by simp)) rfl rfl)

theorem formatField_eq (w : Word) : formatField w =
    if w.toNat / 16 % 4 = 0 then some .short else if w.toNat / 16 % 4 = 1 then some .full else none :=
  if_congr (field_eq_iff w 4 2 0 (by simp)) rfl (if_congr (field_eq_iff w 4 2 1 (by simp)) rfl rfl)

/-- A two-code field names nothing exactly from 2 on, and its second code is 1. -/
theorem twoCodes_eq_none_iff {α : Type} (a b : α) (k : Nat) :
    (if k = 0 then some a else if k = 1 then some b else none) = none ↔ 1 < k := by
  by_cases h0 : k = 0
  · simp [h0]
  · by_cases h1 : k = 1
    · simp [h1]
    · simp only [h0, h1, if_false, true_iff]
      omega

theorem twoCodes_getD_eq_iff {α : Type} {a b : α} (hab : a ≠ b) (k : Nat) :
    (if k = 0 then some a else if k = 1 then some b else none).getD a = b ↔ k = 1 := by
  by_cases h0 : k = 0
  · simp [h0, hab]
  · by_cases h1 : k = 1
    · simp [h1]
    · simp [h0, h1, hab]

theorem widthField_eq (w : Word) : widthField w = w.toNat % 64 := by
  simp [widthField]

theorem decimationField_eq (w : Word) : decimationField w = w.toNat / 65536 := by
  have := w.isLt
  rw [decimationField, toNat_extractLsb'_eq]
  omega

theorem wordAt_eq (ws : List Word) (i : Nat) : wordAt ws i = ws.getD i 0 := by
  rw [wordAt, List.getD_eq_getElem?_getD]

/-! ## Headers and entry records (R149, R150) -/

theorem headerFailure_eq (ws : List Word) : headerFailure ws = firstFailure (headerChecks fun i => ws.getD i 0) := by
  simp only [headerFailure, headerChecks, firstFailure_cons, firstFailure_nil, decide_eq_true_eq, wordAt_eq, widthField_eq,
    foldField_eq, responseField_eq, twoCodes_eq_none_iff]

theorem headerRead_headerPolicy (ws : List Word) : HeaderRead (fun i => ws.getD i 0) (headerPolicy ws) := by
  simp only [HeaderRead, headerPolicy, wordAt_eq, widthField_eq, foldField_eq, responseField_eq]
  exact ⟨trivial, twoCodes_getD_eq_iff (by simp) _, trivial, trivial, by simp, twoCodes_getD_eq_iff (by simp) _, trivial,
    trivial, trivial⟩

theorem firstFailure_entryChecks (width image : Nat) (ws : List Word) :
    firstFailure (entryChecks width image fun i => ws.getD i 0) = (entryFailure width ws).map (image + ·) := by
  simp only [entryFailure, entryChecks, firstFailure_cons, firstFailure_nil, decide_eq_true_eq, wordAt_eq,
    decimationField_eq, formatField_eq, responseField_eq, twoCodes_eq_none_iff]
  repeat' split
  all_goals rfl

theorem entryRead_entryOf (ws : List Word) : EntryRead (fun i => ws.getD i 0) (entryOf ws) := by
  simp only [EntryRead, entryOf, wordAt_eq, decimationField_eq, formatField_eq, responseField_eq]
  exact ⟨trivial, trivial, by simp, by simp, twoCodes_getD_eq_iff (by simp) _, trivial, trivial, by simp,
    twoCodes_getD_eq_iff (by simp) _, trivial⟩

/-! ## Image reads (R149 to R151) -/

theorem exec_policyReadCompletion_of_owes {s : State} {e : IssueEntry} {l : Loader} {ans : MemResponse}
    (h : s.owesAnswerTo .command e) (hdata : ans.data.length = e.beats) (hloader : s.command.loader = some l)
    (hflight : l.inFlight = true) : exec (.policyReadCompletion ans) s = .next (s.popIssued.policyRead l ans).settle := by
  have hanswering : s.loaderAnswering = some (e, l) := by
    simp [State.loaderAnswering, State.answering_of_owes h, h.requester, hloader, Option.filter, hflight]
  have hwhole : e.whole ans = true := by simp [IssueEntry.whole, hdata]
  dsimp only [exec, execPolicyReadCompletion]
  rw [hanswering]
  dsimp only
  rw [if_pos hwhole]
  exact event_of_enabled h.live _

/-- R151, R135: the end of a load that runs. -/
theorem State.endLoad_popIssued {s : State} {n : BitVec 8}
    (hc : s.command.running = some { code := 0x02, number := n, stream := none }) (staged : Staged) (r : Result) (f : Nat) :
    s.popIssued.endLoad staged r f = s.loadEnded staged n r.code (BitVec.ofNat 12 f) := by
  have hdirty : s.report.dirty ||| 0x40#8 ||| 0x01#8 = s.report.dirty ||| 0x41 := by
    rw [BitVec.or_assoc]
    rfl
  unfold State.endLoad
  refine (State.finish_of_running (c := { code := 0x02, number := n, stream := none }) ?_ rfl r f).trans ?_
  · exact hc
  · rw [State.loadEnded, ← hdirty]
    rfl

theorem State.settle_loadEnded {s : State} (h : s.settled = true) (staged : Staged) (n : BitVec 8) (r : BitVec 4)
    (f : BitVec 12) : (s.loadEnded staged n r f).settle = s.loadEnded staged n r f :=
  State.settle_of_frame h rfl rfl rfl rfl rfl rfl

theorem State.settle_loadGoesOn {s : State} (h : s.settled = true) (l : Loader) :
    (s.loadGoesOn l).settle = s.loadGoesOn l :=
  State.settle_of_frame h rfl rfl rfl rfl rfl rfl

/-- R149, R150: an answer's outcome by cases: how the load ends, or how the loader goes on. -/
theorem exec_policyReadCompletion_ends {s : State} {e : IssueEntry} {l : Loader} {ans : MemResponse} {n : BitVec 8}
    (h : s.owesAnswerTo .command e) (hdata : ans.data.length = e.beats) (hloader : s.command.loader = some l)
    (hflight : l.inFlight = true) (hc : s.command.running = some { code := 0x02, number := n, stream := none })
    (hsettled : s.settled = true) {staged : Staged} {r : Result} {f : Nat}
    (hread : s.popIssued.policyRead l ans = s.popIssued.endLoad staged r f) :
    exec (.policyReadCompletion ans) s = .next (s.loadEnded staged n r.code (BitVec.ofNat 12 f)) := by
  rw [exec_policyReadCompletion_of_owes h hdata hloader hflight, hread, State.endLoad_popIssued hc,
    State.settle_loadEnded hsettled]

theorem exec_policyReadCompletion_goesOn {s : State} {e : IssueEntry} {l l' : Loader} {ans : MemResponse}
    (h : s.owesAnswerTo .command e) (hdata : ans.data.length = e.beats) (hloader : s.command.loader = some l)
    (hflight : l.inFlight = true) (hsettled : s.settled = true)
    (hread : s.popIssued.policyRead l ans = s.loadGoesOn l') :
    exec (.policyReadCompletion ans) s = .next (s.loadGoesOn l') := by
  rw [exec_policyReadCompletion_of_owes h hdata hloader hflight, hread, State.settle_loadGoesOn hsettled]

theorem State.policyRead_error (s : State) (l : Loader) (data : List Word) :
    s.policyRead l { code := .error, data := data } = s.endLoad .empty .memerr 0 := rfl

theorem State.policyRead_header {l : Loader} (hl : l.part = none) (s : State) (data : List Word) :
    s.policyRead l { code := .okay, data := data } = s.takeHeader l data := by
  simp only [State.policyRead, hl]

theorem State.policyRead_entries {l : Loader} {part : LoadedPart} (hl : l.part = some part) (s : State) (data : List Word) :
    s.policyRead l { code := .okay, data := data } = s.takeEntries l part data := by
  simp only [State.policyRead, hl]

/-- Settles O25: by the answer's code, the first failing check and the entry count. -/
theorem headerReadIsCheckedInOrder : Obligations.HeaderReadIsCheckedInOrder := by
  intro s e l n code data howes _ hdata hloader hflight hpart hc hsettled
  refine ⟨fun hcode => ?_, fun i hcode hfails => ?_, fun hcode hpass => ?_⟩
  · subst hcode
    exact exec_policyReadCompletion_ends howes hdata hloader hflight hc hsettled (State.policyRead_error _ l data)
  · subst hcode
    refine exec_policyReadCompletion_ends (r := .invalid) (f := i) howes hdata hloader hflight hc hsettled
      ((State.policyRead_header hpart _ data).trans ?_)
    rw [State.takeHeader, headerFailure_eq, hfails]
  · subst hcode
    refine ⟨headerPolicy data, headerRead_headerPolicy data, fun hzero => ?_, fun hmore => ?_⟩
    · refine exec_policyReadCompletion_ends (r := .done) (f := 0) howes hdata hloader hflight hc hsettled
        ((State.policyRead_header hpart _ data).trans ?_)
      rw [State.takeHeader, headerFailure_eq, hpass, wordAt_eq]
      exact if_pos (congrArg BitVec.toNat hzero)
    · refine exec_policyReadCompletion_goesOn howes hdata hloader hflight hsettled
        ((State.policyRead_header hpart _ data).trans ?_)
      have hne : (data.getD 1 0).toNat ≠ 0 := fun h => hmore (BitVec.eq_of_toNat_eq h)
      rw [State.takeHeader, headerFailure_eq, hpass, wordAt_eq]
      exact if_neg hne

/-- R150: the checks of a burst of one record. -/
theorem checkEntries_one (p : Policy) (ws : List Word) : checkEntries p [ws] =
    match firstFailure (entryChecks p.width (8 + 8 * p.entries.length) fun i => ws.getD i 0) with
    | some i => .inr i
    | none => .inl { p with entries := p.entries ++ [entryOf ws] } := by
  rw [firstFailure_entryChecks, checkEntries]
  cases entryFailure p.width ws <;> rfl

/-- R150: the checks of a burst of two records: the first record's, and then the second's. -/
theorem checkEntries_two (p : Policy) (xs ys : List Word) : checkEntries p [xs, ys] =
    match firstFailure (entryChecks p.width (8 + 8 * p.entries.length) (fun i => xs.getD i 0) ++
        entryChecks p.width (8 + 8 * (p.entries.length + 1)) (fun i => ys.getD i 0)) with
    | some i => .inr i
    | none => .inl { p with entries := p.entries ++ [entryOf xs, entryOf ys] } := by
  rw [firstFailure_append, firstFailure_entryChecks, firstFailure_entryChecks, checkEntries]
  cases entryFailure p.width xs with
  | some off => rfl
  | none =>
    rw [checkEntries]
    cases entryFailure p.width ys <;> simp [checkEntries]

/-- The entries of a burst's records. -/
def burstEntries (ws : List Word) : List RegionEntry := (entryRecords ws).map entryOf

theorem entryRecords_of_one {ws : List Word} (h : ws.length = 8) : entryRecords ws = [ws] := if_pos (by omega)

theorem entryRecords_of_two {ws : List Word} (h : ws.length = 16) : entryRecords ws = [ws.take 8, ws.drop 8] :=
  if_neg (by omega)

/-- The checks that R150 puts on a burst's words, in order. -/
def burstChecks (width k : Nat) (data : List Word) : List (Bool × Nat) :=
  entryChecks width (8 + 8 * k) (fun i => data.getD i 0) ++
    if data.length = 16 then entryChecks width (8 + 8 * (k + 1)) (fun i => data.getD (8 + i) 0) else []

/-- Only a record's first eight words are checked. -/
theorem entryChecks_congr {w w' : Nat → Word} (h : ∀ i, i < 8 → w i = w' i) (width image : Nat) :
    entryChecks width image w = entryChecks width image w' := by
  simp only [entryChecks, h 0 (by omega), h 1 (by omega), h 3 (by omega), h 5 (by omega)]

theorem EntryRead.congr {w w' : Nat → Word} (h : ∀ i, i < 8 → w i = w' i) {x : RegionEntry} (hx : EntryRead w x) :
    EntryRead w' x := by
  simp only [EntryRead, h 0 (by omega), h 1 (by omega), h 2 (by omega), h 3 (by omega), h 4 (by omega), h 5 (by omega)] at hx
  exact hx

theorem getD_take_of_lt {data : List Word} {i : Nat} (h : i < 8) : (data.take 8).getD i 0 = data.getD i 0 := by
  simp [List.getD_eq_getElem?_getD, h]

theorem getD_drop_eight (data : List Word) (i : Nat) : (data.drop 8).getD i 0 = data.getD (8 + i) 0 := by
  simp [List.getD_eq_getElem?_getD]

/-- R150: the outcome of a burst's checks, for a burst of one record or of two. -/
theorem checkEntries_entryRecords (p : Policy) {data : List Word} (h : data.length = 8 ∨ data.length = 16) :
    checkEntries p (entryRecords data) =
      match firstFailure (burstChecks p.width p.entries.length data) with
      | some i => .inr i
      | none => .inl { p with entries := p.entries ++ burstEntries data } := by
  obtain h | h := h
  · rw [burstEntries, entryRecords_of_one h, checkEntries_one, burstChecks, if_neg (by omega), List.append_nil]
    rfl
  · rw [burstEntries, entryRecords_of_two h, checkEntries_two, burstChecks, if_pos h,
      entryChecks_congr (fun i hi => getD_take_of_lt (data := data) hi)]
    simp only [getD_drop_eight]
    rfl

theorem length_burstEntries {data : List Word} (h : data.length = 8 ∨ data.length = 16) :
    (burstEntries data).length = data.length / 8 := by
  obtain h | h := h
  · rw [burstEntries, entryRecords_of_one h, h]
    rfl
  · rw [burstEntries, entryRecords_of_two h, h]
    rfl

theorem entryRead_burstEntries {data : List Word} (h : data.length = 8 ∨ data.length = 16) {j : Nat} {x : RegionEntry}
    (hx : (burstEntries data)[j]? = some x) : EntryRead (fun i => data.getD (8 * j + i) 0) x := by
  obtain h | h := h
  · rw [burstEntries, entryRecords_of_one h] at hx
    obtain _ | j := j
    · cases hx
      simpa using entryRead_entryOf data
    · simp at hx
  · rw [burstEntries, entryRecords_of_two h] at hx
    obtain _ | _ | j := j
    · cases hx
      exact (entryRead_entryOf (data.take 8)).congr fun i hi => by simpa using getD_take_of_lt hi
    · cases hx
      exact (entryRead_entryOf (data.drop 8)).congr fun i _ => getD_drop_eight data i
    · simp at hx

theorem State.takeEntries_of_fails {part : LoadedPart} {data : List Word} (h : data.length = 8 ∨ data.length = 16) {i : Nat}
    (hfails : firstFailure (burstChecks part.policy.width part.policy.entries.length data) = some i) (s : State) (l : Loader) :
    s.takeEntries l part data = s.endLoad .empty .invalid i := by
  rw [State.takeEntries, checkEntries_entryRecords _ h, hfails]

theorem State.takeEntries_of_passes {part : LoadedPart} {data : List Word} (h : data.length = 8 ∨ data.length = 16)
    (hpass : firstFailure (burstChecks part.policy.width part.policy.entries.length data) = none) (s : State) (l : Loader) :
    s.takeEntries l part data =
      let p : Policy := { part.policy with entries := part.policy.entries ++ burstEntries data }
      if part.policy.entries.length + (burstEntries data).length = part.count then s.endLoad (.valid p) .done 0
      else { s with command := { s.command with
          loader := some { l with part := some { part with policy := p }, inFlight := false } } } := by
  rw [State.takeEntries, checkEntries_entryRecords _ h, hpass]
  simp only [List.length_append]

/-- Settles O26: by the answer's code, the first failing check and whether the burst holds the last entry. -/
theorem entryBurstIsCheckedInOrder : Obligations.EntryBurstIsCheckedInOrder := by
  intro s e l part n code data howes _ hdata hloader hflight hpart hc hsettled hlength
  have hlength' : data.length = 8 ∨ data.length = 16 := hlength.imp And.left And.left
  refine ⟨fun hcode => ?_, fun i hcode hfails => ?_, fun hcode hpass => ?_⟩
  · subst hcode
    exact exec_policyReadCompletion_ends howes hdata hloader hflight hc hsettled (State.policyRead_error _ l data)
  · subst hcode
    exact exec_policyReadCompletion_ends howes hdata hloader hflight hc hsettled
      ((State.policyRead_entries hpart _ data).trans (State.takeEntries_of_fails hlength' hfails _ l))
  · subst hcode
    have hread := (State.policyRead_entries hpart s.popIssued data).trans (State.takeEntries_of_passes hlength' hpass _ l)
    refine ⟨burstEntries data, length_burstEntries hlength', fun j x => entryRead_burstEntries hlength', fun hlast => ?_,
      fun hmore => ?_⟩
    · exact exec_policyReadCompletion_ends howes hdata hloader hflight hc hsettled (hread.trans (if_pos hlast))
    · exact exec_policyReadCompletion_goesOn howes hdata hloader hflight hsettled
        (hread.trans (if_neg (Nat.ne_of_lt hmore)))

end Sys2Proof.Machine
end

section
/-! SUPPORT. One clock (R87) and the advance it brings: the quiet timer's tick or expiry (R63), the linger ages (R103), and the
closes that the judgement finds there. -/

namespace Sys2Proof.Machine

/-! ## Rows -/

theorem State.advanceDue_iff (s : State) : s.advanceDue = true ↔ s.time.divider ≤ s.time.prescale + 1 := by
  simp [State.advanceDue]

theorem exec_clock_of_live {s : State} (hlive : s.resetAsserted = false) : exec .clock s = .next s.clockTick.settle :=
  event_of_enabled (State.live_of_released hlive) _

theorem exec_clock_of_due {s : State} (hlive : s.resetAsserted = false) (hdue : s.time.divider ≤ s.time.prescale + 1) :
    exec .clock s = .next s.advance.settle := by
  rw [exec_clock_of_live hlive, State.clockTick, if_pos ((State.advanceDue_iff s).2 hdue)]

theorem exec_tickAdvance_of_due {s : State} (hlive : s.resetAsserted = false)
    (hdue : s.time.divider ≤ s.time.prescale + 1) : exec .tickAdvance s = .next s.advance.settle :=
  event_of_enabled (by rw [State.live_of_released hlive, (State.advanceDue_iff s).2 hdue]; rfl) _

theorem exec_quietTimerExpiry_of_due {s : State} (hlive : s.resetAsserted = false)
    (hdue : s.time.divider ≤ s.time.prescale + 1) (hquiet : s.capture.quietTimer = some 1) :
    exec .quietTimerExpiry s = .next s.advance.settle :=
  event_of_enabled (by
    rw [State.live_of_released hlive, (State.advanceDue_iff s).2 hdue, State.quietDue, hquiet]
    rfl) _

/-! ## The parts of an advance -/

/-- R87, R103: the tick taken, with both linger ages. -/
def State.aged (s : State) : State :=
  ({ s with time := { s.time with tick := s.time.tick + 1, prescale := 0 } }.ageWalker .event).ageWalker .capture

theorem State.advance_eq (s : State) : s.advance = s.aged.tickQuiet := rfl

@[simp] theorem State.aged_frame (s : State) :
    s.aged.anchorSel = s.anchorSel ∧ s.aged.resetAsserted = s.resetAsserted ∧ s.aged.queue = s.queue ∧
      s.aged.policy = s.policy ∧ s.aged.denial = s.denial ∧ s.aged.capture = s.capture ∧
      s.aged.eventStream = s.eventStream ∧ s.aged.captureStream = s.captureStream ∧ s.aged.arbiter = s.arbiter ∧
      s.aged.command = s.command ∧ s.aged.report = s.report ∧ s.aged.notices = s.notices ∧
      s.aged.time = { s.time with tick := s.time.tick + 1, prescale := 0 } ∧ s.aged.memoryPort = s.memoryPort ∧
      s.aged.processorPort = s.processorPort ∧ s.aged.freeCount = s.freeCount ∧ s.aged.pending = s.pending := by
  simp [State.aged]

theorem State.walker_aged (s : State) (i : StreamId) :
    s.aged.walker i = { s.walker i with lingerAge := (s.walker i).agedBy } := by
  cases i with
  | event =>
    rw [State.aged, State.walker_ageWalker_other _ _ _ (by simp), State.walker_ageWalker_self]
    rfl
  | capture =>
    rw [State.aged, State.walker_ageWalker_self, State.walker_ageWalker_other _ _ _ (by simp)]
    rfl

theorem State.walker_advance (s : State) (i : StreamId) :
    s.advance.walker i = { s.walker i with lingerAge := (s.walker i).agedBy } := by
  rw [State.advance_eq, State.walker_congr (s := s.aged) (by simp) (by simp) i, State.walker_aged]

theorem State.tickQuiet_of_idle {s : State} (h : s.capture.quietTimer = none) : s.tickQuiet = s := by
  simp only [State.tickQuiet, h]

theorem State.tickQuiet_of_running {s : State} {n : Nat} (h : s.capture.quietTimer = some n) (hn : 1 < n) :
    s.tickQuiet = s.setCapture { s.capture with quietTimer := some (n - 1) } := by
  simp only [State.tickQuiet, h]
  exact if_neg (by omega)

theorem State.tickQuiet_of_expiry {s : State} (h : s.capture.quietTimer = some 1) :
    s.tickQuiet = (s.setCapture { s.capture with quietTimer := none }).closeGroup .quiet := by
  simp only [State.tickQuiet, h]
  exact if_pos (by omega)

/-- R63: the timer's own change, where it does not expire. -/
theorem State.tickQuiet_of_not_expiring {s : State} (h : ∀ n, s.capture.quietTimer = some n → 1 < n) :
    s.tickQuiet = s.setCapture { s.capture with quietTimer := s.capture.quietTimer.map (· - 1) } := by
  cases hq : s.capture.quietTimer with
  | none =>
    rw [State.tickQuiet_of_idle hq, Option.map_none, ← hq]
    rfl
  | some n => rw [State.tickQuiet_of_running hq (h n hq), Option.map_some]

/-- R63: an advance at which the quiet timer does not expire changes nothing of the capture unit but the timer, and offers
nothing. -/
theorem State.advance_of_not_expiring {s : State} (h : ∀ n, s.capture.quietTimer = some n → 1 < n) :
    s.advance = s.aged.setCapture { s.capture with quietTimer := s.capture.quietTimer.map (· - 1) } := by
  have haged : ∀ n, s.aged.capture.quietTimer = some n → 1 < n := by simpa using h
  rw [State.advance_eq, State.tickQuiet_of_not_expiring haged]
  simp

@[simp] theorem State.advance_parts (s : State) :
    s.advance.anchorSel = s.anchorSel ∧ s.advance.resetAsserted = s.resetAsserted ∧ s.advance.queue = s.queue ∧
      s.advance.policy = s.policy ∧ s.advance.denial = s.denial ∧ s.advance.arbiter = s.arbiter ∧
      s.advance.command = s.command ∧ s.advance.time = { s.time with tick := s.time.tick + 1, prescale := 0 } ∧
      s.advance.memoryPort = s.memoryPort ∧ s.advance.processorPort = s.processorPort ∧
      s.advance.freeCount = s.freeCount ∧ s.advance.pending = s.pending := by
  simp [State.advance_eq]

theorem State.lingerSetting_advance (s : State) (i : StreamId) : s.advance.lingerSetting i = s.lingerSetting i := by
  cases i <;> simp [State.lingerSetting]

/-! ## The judgement of an advance -/

/-- A walker is settled but for its age and its head record: no space is left unclosed and no flush is at its end. -/
theorem Walker.flushEnds_aged {w : Walker} {fifo : List Record} {setting : Nat} (h : w.settled fifo setting = true)
    (age : Nat) : ({ w with lingerAge := age } : Walker).flushEnds = false :=
  show w.flushEnds = false from Walker.flushEnds_of_settled h

theorem State.command_settle_advance {s : State} (h : s.settled = true) : s.advance.settle.command = s.command := by
  have hquiet (i : StreamId) : s.advance.flushQuiet i := by
    refine .inr ?_
    rw [State.walker_advance]
    exact Walker.flushEnds_aged ((State.settled_iff s).1 h i) _
  rw [(State.settle_quiet hquiet).1]
  simp

/-- R101: with space left, FULL is a head record that does not fit it. -/
theorem Walker.fullCondition_iff {w : Walker} (hspace : w.remaining ≠ 0) (fifo : List Record) :
    w.fullCondition fifo = true ↔
      ∃ c r rest, w.copy = some c ∧ fifo = r :: rest ∧ c.length < w.fillOffset + 4 * r.words := by
  obtain ⟨c, hcopy⟩ : ∃ c, w.copy = some c := by
    cases hcopy : w.copy with
    | none => exact absurd (by simp [Walker.remaining, hcopy]) hspace
    | some c => exact ⟨c, rfl⟩
  have hremaining : w.remaining = c.length - w.fillOffset := by simp only [Walker.remaining, hcopy]
  cases fifo with
  | nil => simp [Walker.fullCondition, hspace]
  | cons r rest =>
    simp only [Walker.fullCondition, hspace, decide_false, Bool.false_or, Walker.fits, Bool.not_eq_true',
      decide_eq_false_iff_not, hcopy, Option.some.injEq, List.cons.injEq]
    constructor
    · intro h
      exact ⟨c, r, rest, rfl, ⟨rfl, rfl⟩, by omega⟩
    · rintro ⟨c', r', rest', rfl, ⟨rfl, rfl⟩, h⟩
      omega

theorem Walker.remaining_ne_zero_of_settled {w : Walker} {fifo : List Record} {setting : Nat}
    (h : w.settled fifo setting = true) (hrest : w.atRest = true) : w.remaining ≠ 0 := by
  obtain ⟨-, hfull, -⟩ := Walker.conditions_of_settled h hrest
  simp only [Walker.fullCondition, Bool.or_eq_false_iff, decide_eq_false_iff_not] at hfull
  exact hfull.1

theorem Walker.lingerCondition_iff (w : Walker) (setting : Nat) :
    w.lingerCondition setting = true ↔ 0 < w.fillOffset ∧ setting ≠ 0 ∧ setting ≤ w.lingerAge := by
  simp [Walker.lingerCondition, and_assoc]

/-- What the judgement makes of a walker whose flush is not at its end. -/
theorem Walker.judged_of_flush_goes {w : Walker} (h : w.atRest = true → w.flushDone = false) (fifo : List Record)
    (setting : Nat) (b : Bool) : w.flushed.judged fifo setting b =
      if w.atRest && w.fullCondition fifo then
        w.closedBy (if w.lingerCondition setting && b then .linger else .full)
      else if w.atRest && w.lingerCondition setting then w.closedBy .linger
      else w := by
  cases hrest : w.atRest with
  | false =>
    have hsettled := Walker.settled_of_not_atRest hrest fifo setting
    rw [Walker.flushed_of_not_flushEnds (Walker.flushEnds_of_settled hsettled), Walker.judged_of_settled hsettled]
    rfl
  | true =>
    rw [Walker.flushed_of_not_flushEnds (Walker.flushEnds_of_not_flushDone (h hrest))]
    simp [Walker.judged, hrest, h hrest]

/-- The walker that an advance leaves to the judgement. -/
def Walker.aged (w : Walker) : Walker := { w with lingerAge := w.agedBy }

/-- R103, R101: each walker after an advance, from a settled state. -/
theorem State.walker_settle_advance {s : State} (h : s.settled = true) (i : StreamId) :
    ∃ b, s.advance.settle.walker i =
      if (s.walker i).aged.atRest && (s.walker i).aged.fullCondition (s.advance.stream i).fifo then
        (s.walker i).aged.closedBy (if (s.walker i).aged.lingerCondition (s.lingerSetting i) && b then .linger else .full)
      else if (s.walker i).aged.atRest && (s.walker i).aged.lingerCondition (s.lingerSetting i) then
        (s.walker i).aged.closedBy .linger
      else (s.walker i).aged := by
  obtain ⟨b, hb⟩ := s.advance.walker_settle i
  rw [State.walker_advance, State.lingerSetting_advance] at hb
  have hflush : (s.walker i).aged.atRest = true → (s.walker i).aged.flushDone = false := fun hrest =>
    (Walker.conditions_of_settled ((State.settled_iff s).1 h i) hrest).1
  exact ⟨b, hb.trans (Walker.judged_of_flush_goes hflush _ _ b)⟩

/-- R101, R103: the closes of a resting walker, by whether FULL and LINGER hold there. -/
theorem Walker.closes_cases {v w : Walker} {full linger : Bool} {b : Bool} {Full Linger : Prop}
    (hfull : (w.atRest && full) = true ↔ Full) (hlinger : (w.atRest && linger) = true ↔ Linger)
    (hv : v = if w.atRest && full then w.closedBy (if linger && b then .linger else .full)
      else if w.atRest && linger then w.closedBy .linger else w) :
    (Linger → ¬ Full → v = w.closedBy .linger) ∧ (Full → ¬ Linger → v = w.closedBy .full) ∧
      (Linger → Full → v = w.closedBy .linger ∨ v = w.closedBy .full) ∧ (Linger ∨ Full → v.state = .closing) ∧
      (¬ Linger → ¬ Full → v = w) := by
  rw [← hfull, ← hlinger, hv]
  cases w.atRest
  · simp
  · cases full
    · cases linger <;> simp [Walker.closedBy]
    · cases linger
      · simp [Walker.closedBy]
      · cases b <;> simp [Walker.closedBy]

theorem State.capture_settle (s : State) : s.settle.capture = s.capture := by simp

theorem State.eventStream_settle (s : State) : s.settle.eventStream = s.eventStream := by simp

theorem State.captureStream_settle (s : State) : s.settle.captureStream = s.captureStream := by simp

theorem State.stream_settle (s : State) (i : StreamId) : s.settle.stream i = s.stream i := by
  cases i <;> simp [State.stream]

theorem State.lingerAge_settle_advance (s : State) (i : StreamId) :
    (s.advance.settle.walker i).lingerAge = (s.walker i).agedBy := by
  obtain ⟨-, -, -, -, hage, -, -⟩ := s.advance.walker_settle_keeps i
  rw [hage, State.walker_advance]

theorem State.advance_settle_frame (s : State) : s.advance.settle = { s with
    time := s.advance.settle.time, capture := s.advance.settle.capture, eventStream := s.advance.settle.eventStream
    captureStream := s.advance.settle.captureStream, eventWalker := s.advance.settle.eventWalker
    captureWalker := s.advance.settle.captureWalker, command := s.advance.settle.command
    report := s.advance.settle.report, notices := s.advance.settle.notices
    freeCount := s.advance.settle.freeCount } := by
  apply State.eq_of_parts
  all_goals simp

/-- Settles O27: below the divider the clock changes the prescale count alone; at it the advance is taken, and the judgement
finds what the ages and the records brought. -/
theorem clockCountsAndAdvancesTheTick : Obligations.ClockCountsAndAdvancesTheTick := by
  refine ⟨fun s hlive hsettled hbelow => ?_, fun s hlive hdue => ?_⟩
  · have hnotDue : ¬ s.advanceDue = true := by
      rw [State.advanceDue_iff]
      omega
    rw [exec_clock_of_live hlive, State.clockTick, if_neg hnotDue]
    exact congrArg _ (State.settle_of_frame hsettled rfl rfl rfl rfl rfl rfl)
  · refine ⟨s.advance.settle, exec_clock_of_due hlive hdue, exec_tickAdvance_of_due hlive hdue, by simp,
      s.advance_settle_frame, fun q hq hrunning => ?_, fun hidle => ?_, fun hrunning => ?_, s.lingerAge_settle_advance,
      fun hsettled => ⟨State.command_settle_advance hsettled, fun i => ?_⟩⟩
    · have hnot : ∀ n, s.capture.quietTimer = some n → 1 < n := fun n hn => by
        rw [hq] at hn
        cases hn
        exact hrunning
      rw [State.capture_settle, State.advance_of_not_expiring hnot, State.setCapture_capture, hq]
      rfl
    · have hnot : ∀ n, s.capture.quietTimer = some n → 1 < n := fun n hn => by
        rw [hidle] at hn
        cases hn
      rw [State.capture_settle, State.advance_of_not_expiring hnot, State.setCapture_capture, hidle,
        Option.map_none, ← hidle]
    · simp [State.advance_of_not_expiring hrunning]
    · intro aged resting linger full closed
      have hrest : aged.atRest = true ↔ resting := Walker.atRest_iff aged
      have hlinger : (aged.atRest && aged.lingerCondition (s.lingerSetting i)) = true ↔ linger := by
        rw [Bool.and_eq_true, hrest, Walker.lingerCondition_iff]
      have hfull : (aged.atRest && aged.fullCondition (s.advance.stream i).fifo) = true ↔ full := by
        rw [Bool.and_eq_true, ← State.stream_settle]
        refine Iff.trans (and_congr_right fun hopen => ?_) (and_congr_left' hrest)
        exact Walker.fullCondition_iff (Walker.remaining_ne_zero_of_settled (w := s.walker i)
          ((State.settled_iff s).1 hsettled i) hopen) _
      obtain ⟨b, hb⟩ := State.walker_settle_advance hsettled i
      obtain ⟨honlyLinger, honlyFull, hboth, hcloses, hneither⟩ := Walker.closes_cases hfull hlinger hb
      refine ⟨honlyLinger, fun hf hl => honlyFull hf hl, hboth, fun hor => ?_, hneither⟩
      have hopen : aged.atRest = true := by
        rw [hrest]
        exact hor.elim And.left And.left
      have hfilling : (s.advance.walker i).state = .filling := by
        rw [State.walker_advance]
        exact ((Walker.atRest_iff aged).1 hopen).1
      refine State.isDirty_settle_of_closes ?_
      rw [hcloses hor, hfilling]
      simp

/-! ## QUIET_TIMER_EXPIRY (R63, R64) -/

/-- R64: the state after a close by the quiet timer, from a state in which a group is open. -/
theorem closedState_quiet {c : CaptureState} (h : ¬ (c = .stopped ∨ c = .armed)) (oneShot : Bool) :
    closedState c .quiet oneShot = if c = .running ∧ oneShot = false then .running else .stopped := by
  cases c
  · exact absurd (.inl rfl) h
  · exact absurd (.inr rfl) h
  · cases oneShot <;> rfl
  · rfl

/-- The state in which the expiry closes the open group: the ages are taken and the timer is idle. -/
def State.expired (s : State) : State := s.aged.setCapture { s.capture with quietTimer := none }

theorem State.advance_of_expiry {s : State} (h : s.capture.quietTimer = some 1) :
    s.advance = s.expired.closeGroup .quiet := by
  rw [State.advance_eq, State.tickQuiet_of_expiry (by simpa using h), State.expired]
  simp

theorem State.openGroup_of_law {s : State} (hlaw : s.groupLaw) {g : OpenGroup} (hg : s.capture.openGroup = some g) :
    ¬ (s.capture.state = .stopped ∨ s.capture.state = .armed) := by
  obtain ⟨hnone, -⟩ := hlaw
  intro h
  rw [hnone h] at hg
  cases hg

/-- Settles O28: the advance's close is the open group's, at the tick that the advance brings. -/
theorem quietExpiryClosesTheGroup : Obligations.QuietExpiryClosesTheGroup := by
  intro s g hlive hdue hquiet hg hlaw
  have hopen : s.expired.capture.openGroup = some g := by simpa [State.expired] using hg
  have htick : s.expired.time.tick = s.time.tick + 1 := by simp [State.expired]
  have hstate : closedState s.capture.state .quiet s.capture.trigger.oneShot =
      if s.capture.state = .running ∧ s.capture.trigger.oneShot = false then .running else .stopped :=
    closedState_quiet (State.openGroup_of_law hlaw hg) _
  refine ⟨s.advance.settle, exec_quietTimerExpiry_of_due hlive hdue hquiet, exec_clock_of_due hlive hdue, by simp, ?_, ?_, ?_,
    s.advance_settle_frame⟩
  · rw [← hstate]
    simp only [State.settle_frame, State.advance_of_expiry hquiet, State.capture_closeGroup hopen, htick]
    simp [CaptureUnit.closed, State.expired, OpenGroup.close]
  · simp only [State.settle_frame, State.advance_of_expiry hquiet, State.captureStream_closeGroup hopen, htick]
    simp [State.expired, OpenGroup.close]
  · rw [← hstate]
    simp only [State.settle_frame, State.advance_of_expiry hquiet, State.eventStream_closeGroup hopen, htick]
    simp [State.expired]

/-! ## LINGER_CLOSE (R103) -/

/-- R103: the age that reaches its setting at this advance. -/
theorem Walker.lingerCondition_aged {w : Walker} {setting : Nat} (hstate : w.state = .filling) (hfill : 0 < w.fillOffset)
    (hsetting : setting ≠ 0) (hmax : setting ≤ 65535) (hage : setting = w.lingerAge + 1) :
    w.aged.lingerCondition setting = true := by
  have haged : w.aged.lingerAge = min 65535 (w.lingerAge + 1) := if_pos ⟨hstate, hfill⟩
  refine (Walker.lingerCondition_iff _ _).2 ⟨hfill, hsetting, ?_⟩
  rw [haged]
  omega

theorem exec_lingerClose_of_due {s : State} (hlive : s.resetAsserted = false) (hsettled : s.settled = true)
    (hdue : s.time.divider ≤ s.time.prescale + 1) {i : StreamId} (hrest : (s.walker i).aged.atRest = true)
    (hlinger : (s.walker i).aged.lingerCondition (s.lingerSetting i) = true) :
    exec (.lingerClose i) s = .next s.advance.settle := by
  have hyoung : s.lingerHolds i = false := by
    rw [State.lingerHolds, Bool.and_eq_false_iff]
    cases hopen : (s.walker i).atRest
    · exact .inl rfl
    · obtain ⟨-, -, hlinger'⟩ := Walker.conditions_of_settled ((State.settled_iff s).1 hsettled i) hopen
      exact .inr hlinger'
  have hcomes : s.lingerDue i = true := by
    have hsetting : (s.ageWalker i).lingerSetting i = s.lingerSetting i := State.lingerSetting_congr (by simp) i
    rw [State.lingerDue, (State.advanceDue_iff s).2 hdue, State.lingerHolds, State.walker_ageWalker_self, hsetting]
    exact Bool.and_eq_true_iff.2 ⟨rfl, Bool.and_eq_true_iff.2 ⟨hrest, hlinger⟩⟩
  have hrow : exec (.lingerClose i) s = .next (State.lingerEvent i s).settle :=
    event_of_enabled (by rw [State.live_of_released hlive, hyoung, hcomes]; rfl) _
  rw [hrow, State.lingerEvent, hyoung]
  rfl

/-- Settles O29: the advance brings no record, so no buffer is FULL that was not, and the age's close is LINGER. -/
theorem lingerAgeClosesTheBuffer : Obligations.LingerAgeClosesTheBuffer := by
  intro s i hlive hsettled hdue hrunning hstate hidle hfill hsetting hmax hage
  have hrest : (s.walker i).aged.atRest = true := (Walker.atRest_iff _).2 ⟨hstate, hidle⟩
  have hlinger := Walker.lingerCondition_aged hstate hfill hsetting hmax hage
  have hadvance := State.advance_of_not_expiring hrunning
  have hfull : (s.walker i).aged.fullCondition (s.advance.stream i).fifo = false := by
    have hstream : s.advance.stream i = s.stream i := by
      rw [hadvance]
      cases i <;> simp [State.stream]
    rw [hstream]
    exact (Walker.conditions_of_settled ((State.settled_iff s).1 hsettled i) hrest).2.1
  have hwalker : s.advance.settle.walker i = (s.walker i).aged.closedBy .linger := by
    obtain ⟨b, hb⟩ := State.walker_settle_advance hsettled i
    rw [hb, hrest, hfull, hlinger]
    rfl
  have hquiet (j : StreamId) : s.advance.flushQuiet j := by
    refine .inr ?_
    rw [State.walker_advance]
    exact Walker.flushEnds_aged ((State.settled_iff s).1 hsettled j) _
  obtain ⟨hcommand, hnotices⟩ := State.settle_quiet hquiet
  refine ⟨s.advance.settle, exec_lingerClose_of_due hlive hsettled hdue hrest hlinger, exec_clock_of_due hlive hdue, ?_, ?_,
    ?_, ?_, by simp, by simp [hadvance], ?_, ?_⟩
  · rw [hwalker]
    rfl
  · rw [hwalker]
    rfl
  · rw [hwalker]
    rfl
  · rw [hwalker]
    rfl
  · refine State.isDirty_settle_of_closes ?_
    have hfilling : (s.advance.walker i).state = .filling := by
      rw [State.walker_advance]
      exact hstate
    rw [hwalker, hfilling]
    simp [Walker.closedBy]
  · apply State.eq_of_parts
    case command => exact hcommand.trans (by simp)
    case notices => exact hnotices.trans (by simp [hadvance])
    all_goals simp [hadvance]

end Sys2Proof.Machine
end

section
/-! SUPPORT. What the walkers' completions leave (R98 to R104, R109, R111 to R115): rows, faults, flush ends and aborts, each with
the judgement that ends the event. -/

namespace Sys2Proof.Machine

/-! ## Rows -/

theorem State.walkerAnswering_of_owes {s : State} {i : StreamId} {e : IssueEntry} {tx : WalkerTx}
    (h : s.owesAnswerTo i.requester e) (hin : (s.walker i).inFlight = some tx) : s.walkerAnswering = some (e, i, tx) := by
  have hr := h.requester
  cases i with
  | event =>
    have hin' : s.eventWalker.inFlight = some tx := hin
    simp [State.walkerAnswering, State.answering_of_owes h, hr, StreamId.requester, hin']
  | capture =>
    have hin' : s.captureWalker.inFlight = some tx := hin
    simp [State.walkerAnswering, State.answering_of_owes h, hr, StreamId.requester, hin']

theorem exec_descriptorFetchCompletion_of_owes {s : State} {i : StreamId} {e : IssueEntry} {ans : MemResponse}
    (h : s.owesAnswerTo i.requester e) (hin : (s.walker i).inFlight = some .fetch) (hdata : ans.data.length = e.beats) :
    exec (.descriptorFetchCompletion ans) s = .next (s.popIssued.takeFetch i ans).settle := by
  have hwhole : e.whole ans = true := by simp [IssueEntry.whole, hdata]
  dsimp only [exec, execDescriptorFetchCompletion]
  rw [State.walkerAnswering_of_owes h hin]
  dsimp only
  rw [if_pos hwhole]
  exact event_of_enabled h.live _

theorem exec_recordBurstCompletion_of_owes {s : State} {i : StreamId} {e : IssueEntry} {rs : List Record}
    (h : s.owesAnswerTo i.requester e) (hin : (s.walker i).inFlight = some (.burst rs)) (code : RespCode) :
    exec (.recordBurstCompletion code) s = .next (s.popIssued.takeBurst i rs code).settle := by
  dsimp only [exec, execRecordBurstCompletion]
  rw [State.walkerAnswering_of_owes h hin]
  exact event_of_enabled h.live _

theorem exec_statusWriteCompletion_of_owes {s : State} {i : StreamId} {e : IssueEntry}
    (h : s.owesAnswerTo i.requester e) (hin : (s.walker i).inFlight = some .status) (code : RespCode) :
    exec (.statusWriteCompletion code) s = .next (s.popIssued.takeStatus i code).settle := by
  dsimp only [exec, execStatusWriteCompletion]
  rw [State.walkerAnswering_of_owes h hin]
  exact event_of_enabled h.live _

theorem State.walker_popIssued (s : State) (i : StreamId) : s.popIssued.walker i = s.walker i :=
  State.walker_congr rfl rfl i

theorem State.stream_popIssued (s : State) (i : StreamId) : s.popIssued.stream i = s.stream i := by
  cases i <;> rfl

/-! ## Flushes cut short (R109) -/

theorem State.cutFlush_of_flush {s : State} {i : StreamId} (h : (s.walker i).flushCount.isSome = true) (r : Result) :
    s.cutFlush i r = s.endFlush i r := if_pos h

theorem State.walker_cutFlush (s : State) (i j : StreamId) (r : Result) :
    (s.cutFlush i r).walker j = if j = i then { s.walker i with flushCount := none } else s.walker j := by
  unfold State.cutFlush
  split
  · exact State.walker_endFlush ..
  next hnone =>
    have hnone : (s.walker i).flushCount = none := by simpa using hnone
    split
    next hj => rw [hj, ← hnone]
    · rfl

theorem State.stream_cutFlush (s : State) (i j : StreamId) (r : Result) : (s.cutFlush i r).stream j = s.stream j := by
  cases j <;> simp [State.stream]

theorem commandCompletes_endFlush {s u : State} (hu : u.command = s.command) (i : StreamId) (r : Result) :
    CommandCompletes s (u.endFlush i r) i r.code := commandCompletes_finish (by simpa using hu) i r

theorem commandCompletes_cutFlush {s u : State} (hu : u.command = s.command) {i : StreamId}
    (h : (u.walker i).flushCount.isSome = true) (r : Result) : CommandCompletes s (u.cutFlush i r) i r.code := by
  rw [State.cutFlush_of_flush h]
  exact commandCompletes_endFlush hu i r

/-! ## Faults (R115) -/

theorem State.walker_raise (s : State) (n : Notice) (j : StreamId) : (s.raise n).walker j = s.walker j :=
  State.walker_congr (by simp) (by simp) j

theorem State.walker_offer (s : State) (i j : StreamId) (r : Record) : (s.offer i r).walker j = s.walker j :=
  State.walker_congr (by simp) (by simp) j

/-- R115: the walker after a fault: the flush, if any, is cut short. -/
theorem State.walker_enterFaulted (s : State) (i j : StreamId) (cause : FaultCause) :
    (s.enterFaulted i cause).walker j =
      if j = i then
        { s.walker i with state := .faulted, copy := none, closeReason := none, inFlight := none, flushCount := none }
      else s.walker j := by
  simp only [State.enterFaulted, State.walker_cutFlush, State.walker_offer, State.walker_raise, State.walker_moveWalker]
  split
  · simp
  · rfl

theorem State.captureStream_enterFaulted (s : State) (i : StreamId) (cause : FaultCause) :
    (s.enterFaulted i cause).captureStream = s.captureStream := by
  simp [State.enterFaulted]

theorem State.eventStream_enterFaulted (s : State) (i : StreamId) (cause : FaultCause) :
    (s.enterFaulted i cause).eventStream =
      s.eventStream.afterOffer .event s.time.tick (.chainFault i cause (s.walker i).current s.time.tick) := by
  simp [State.enterFaulted, State.eventStream_offer]

theorem State.isRaised_enterFaulted (s : State) (i : StreamId) (cause : FaultCause) {m : Notice} (h : m ≠ .commandDone) :
    (s.enterFaulted i cause).isRaised m = (s.isRaised m || decide (m = .chainFault) ||
      (decide (m = .eventLoss) &&
        s.eventStream.hasNoRoom .event (.chainFault i cause (s.walker i).current s.time.tick))) := by
  rw [State.enterFaulted, State.isRaised_cutFlush_of_ne _ _ _ h, State.isRaised_offer, State.isRaised_raise,
    State.isRaised_moveWalker, State.stream_raise, State.stream_moveWalker]
  rfl

theorem commandCompletes_enterFaulted {s u : State} (hu : u.command = s.command) {i : StreamId}
    (h : (u.walker i).flushCount.isSome = true) (cause : FaultCause) :
    CommandCompletes s (u.enterFaulted i cause) i cause.flushResult.code := by
  refine commandCompletes_cutFlush (by simpa using hu) ?_ _
  rw [State.walker_offer, State.walker_raise, State.walker_moveWalker, if_pos rfl]
  exact h

/-! ## Aborts (R114) -/

/-- R114: the abort that completes at the end of an event, whose stream may have lost a burst's records before. -/
theorem abortCompletes_completeAbort {s v : State} (hcommand : v.command = s.command) {i : StreamId}
    (hfault : v.isRaised .chainFault = s.isRaised .chainFault) (hother : ∀ j, j ≠ i → v.stream j = s.stream j) :
    AbortCompletes s (v.completeAbort i).settle i (v.stream i) (v.walker i).abortError := by
  have hwalker : (v.completeAbort i).settle.walker i = { v.walker i with
      state := .idle, current := 0, copy := none, fillOffset := 0, lingerAge := 0, closeReason := none, inFlight := none } := by
    rw [State.walker_settle_of_not_atRest, State.walker_completeAbort, if_pos rfl]
    rw [State.walker_completeAbort, if_pos rfl]
    rfl
  have hloss : i.lossNotice ≠ .commandDone ∧ Notice.chainFault ≠ i.lossNotice := by
    cases i <;> simp [StreamId.lossNotice]
  rw [AbortCompletes, hwalker]
  refine ⟨rfl, rfl, rfl, rfl, rfl, rfl, ?_, fun hne => ?_, (commandCompletes_completeAbort hcommand i).settle, ?_,
    fun j hj => ?_⟩
  · rw [State.stream_settle, State.stream_completeAbort, if_pos rfl]
  · rw [State.isRaised_settle_of_ne _ hloss.1, State.isRaised_completeAbort _ _ hloss.1]
    simp [hne]
  · rw [State.isRaised_settle_of_ne _ (by simp), State.isRaised_completeAbort _ _ (by simp), hfault]
    simp [hloss.2]
  · rw [State.stream_settle, State.stream_completeAbort, if_neg hj, hother j hj]

end Sys2Proof.Machine
end

section
/-! SUPPORT. A descriptor fetch's answer (R98, R99, R109, R111, R115). -/

namespace Sys2Proof.Machine

/-- R115: the faulted walker through the judgement. -/
theorem State.walker_settle_enterFaulted (s : State) (i : StreamId) (cause : FaultCause) :
    (s.enterFaulted i cause).settle.walker i =
      { s.walker i with state := .faulted, copy := none, closeReason := none, inFlight := none, flushCount := none } := by
  rw [State.walker_settle_of_not_atRest, State.walker_enterFaulted, if_pos rfl]
  rw [State.walker_enterFaulted, if_pos rfl]
  rfl

theorem State.isRaised_settle_enterFaulted (s : State) (i : StreamId) (cause : FaultCause) :
    (s.enterFaulted i cause).settle.isRaised .chainFault = true := by
  rw [State.isRaised_settle_of_ne _ (by simp), State.isRaised_enterFaulted _ _ _ (by simp)]
  simp

/-! ## DESCRIPTOR_FETCH_COMPLETION (R98, R99) -/

theorem getLsbD_eq_decide (w : Word) (k : Nat) : w.getLsbD k = decide (w.toNat / 2 ^ k % 2 = 1) := by
  rw [← BitVec.testBit_toNat, Nat.testBit_eq_decide_div_mod_eq]

theorem toNat_descriptorLink (w2 : Word) : (descriptorLink w2).toNat = w2.toNat / 4 * 4 := by
  have := w2.isLt
  rw [descriptorLink, BitVec.toNat_append, BitVec.extractLsb'_toNat, Nat.shiftRight_eq_div_pow]
  have h : w2.toNat / 2 ^ 2 % 2 ^ 30 = w2.toNat / 4 := by omega
  rw [h]
  show (w2.toNat / 4) <<< 2 ||| 0 = _
  rw [Nat.or_zero, Nat.shiftLeft_eq]

/-- R173: the link of a descriptor is word 2 with its two flags cleared. -/
theorem descriptorLink_eq (w2 : Word) : descriptorLink w2 = w2 &&& 0xFFFFFFFC := by
  apply BitVec.eq_of_getLsbD_eq
  intro k hk
  obtain rfl | rfl | hk2 : k = 0 ∨ k = 1 ∨ 2 ≤ k := by omega
  · rw [descriptorLink, BitVec.getLsbD_append, if_pos (by omega)]
    simp
  · rw [descriptorLink, BitVec.getLsbD_append, if_pos (by omega)]
    simp
  · have hmask : (0xFFFFFFFC : Word).getLsbD k = true := by
      have h : ∀ j : Fin 32, 2 ≤ j.val → (0xFFFFFFFC : Word).getLsbD j.val = true := by decide
      exact h ⟨k, hk⟩ hk2
    rw [BitVec.getLsbD_and, hmask, Bool.and_true, descriptorLink, BitVec.getLsbD_append, if_neg (by omega),
      BitVec.getLsbD_extractLsb']
    simp [show k - 2 < 30 by omega, show 2 + (k - 2) = k by omega]

theorem descriptorOwnedByPart_eq (w3 : Word) : descriptorOwnedByPart w3 =
    if w3.toNat % 4 = 1 then some true else if w3.toNat % 4 = 2 then some false else none := by
  have hfield (k : Nat) (hk : k < 2 ^ 2) : w3.extractLsb' 0 2 = BitVec.ofNat 2 k ↔ w3.toNat % 4 = k := by
    rw [field_eq_iff w3 0 2 k hk]
    simp
  exact if_congr (hfield 1 (by simp)) rfl (if_congr (hfield 2 (by simp)) rfl rfl)

/-- R98: the model's checks are those of the list. -/
theorem descriptorFault_eq (i : StreamId) (w0 w1 w2 w3 : Word) :
    descriptorFault i w0 w1 w2 w3 = firstFailure (descriptorChecks i w0 w1 w2 w3) := by
  have hstream : descriptorStream w2 ≠ i ↔ (decide (i = .capture) != w2.getLsbD 1) = true := by
    unfold descriptorStream
    cases i <;> cases w2.getLsbD 1 <;> simp
  have hlink : descriptorLast w2 = false ∧ (descriptorLink w2).toNat % 16 ≠ 0 ↔
      (!w2.getLsbD 0 && (w2.getLsbD 2 || w2.getLsbD 3)) = true := by
    have h : (descriptorLink w2).toNat % 16 ≠ 0 ↔ (w2.getLsbD 2 || w2.getLsbD 3) = true := by
      rw [toNat_descriptorLink, Bool.or_eq_true, getLsbD_eq_decide, getLsbD_eq_decide, decide_eq_true_eq, decide_eq_true_eq]
      omega
    rw [h, descriptorLast, Bool.and_eq_true, Bool.not_eq_true']
  have howner : descriptorOwnedByPart w3 = none ↔ w3.toNat % 4 = 0 ∨ w3.toNat % 4 = 3 := by
    rw [descriptorOwnedByPart_eq]
    have := Nat.mod_lt w3.toNat (show 0 < 4 by omega)
    split
    · simp only [reduceCtorEq, false_iff]
      omega
    · split
      · simp only [reduceCtorEq, false_iff]
        omega
      · simp only [true_iff]
        omega
  simp only [descriptorFault, descriptorChecks, firstFailure_cons, firstFailure_nil, decide_eq_true_eq, hstream, hlink, howner]

/-- R109: a failed check cuts a flush short with STATE. -/
theorem flushResult_of_failed {i : StreamId} {w0 w1 w2 w3 : Word} {cause : FaultCause}
    (h : firstFailure (descriptorChecks i w0 w1 w2 w3) = some cause) :
    cause.flushResult.code = 6 ∧ cause ≠ .fetchError := by
  simp only [descriptorChecks, firstFailure_cons, firstFailure_nil] at h
  split at h
  · cases h
    exact ⟨rfl, by simp⟩
  split at h
  · cases h
    exact ⟨rfl, by simp⟩
  split at h
  · cases h
    exact ⟨rfl, by simp⟩
  split at h
  · cases h
    exact ⟨rfl, by simp⟩
  split at h
  · cases h
    exact ⟨rfl, by simp⟩
  · cases h

section Judge
variable {s : State} {i : StreamId} {w0 w1 w2 w3 : Word}

theorem State.judgeDescriptor_of_error (ans : MemResponse) (h : ans.code = .error) :
    s.judgeDescriptor i ans = s.enterFaulted i .fetchError := if_pos h

theorem State.judgeDescriptor_of_failed {cause : FaultCause}
    (h : firstFailure (descriptorChecks i w0 w1 w2 w3) = some cause) :
    s.judgeDescriptor i { code := .okay, data := [w0, w1, w2, w3] } = s.enterFaulted i cause := by
  rw [← descriptorFault_eq] at h
  show (match descriptorFault i w0 w1 w2 w3 with | some c => _ | none => _) = _
  rw [h]

theorem State.judgeDescriptor_of_passed (h : firstFailure (descriptorChecks i w0 w1 w2 w3) = none) :
    s.judgeDescriptor i { code := .okay, data := [w0, w1, w2, w3] } =
      if descriptorOwnedByPart w3 = some true then s.enterFilling i (descriptorCopy w0 w1 w2) else s.enterWaiting i := by
  rw [← descriptorFault_eq] at h
  show (match descriptorFault i w0 w1 w2 w3 with | some c => _ | none => _) = _
  rw [h]
  rfl

end Judge

/-- R98: a passed descriptor names its own stream. -/
theorem descriptorStream_of_passed {i : StreamId} {w0 w1 w2 w3 : Word}
    (h : firstFailure (descriptorChecks i w0 w1 w2 w3) = none) : descriptorStream w2 = i := by
  rw [← descriptorFault_eq] at h
  unfold descriptorFault at h
  split at h
  · cases h
  next hstream => exact not_not.1 hstream

theorem State.walker_enterFilling (s : State) (i : StreamId) (c : DescriptorCopy) :
    (s.enterFilling i c).walker i = { s.walker i with
      state := .filling, copy := some c, fillOffset := 0, gapPresent := false, lingerAge := 0, inFlight := none } := by
  rw [State.enterFilling, State.walker_moveWalker, if_pos rfl]

/-- R100, R103, R108: over an empty buffer nothing closes; a flush at its end point ends. -/
theorem Walker.judged_of_empty {w : Walker} {c : DescriptorCopy} (hcopy : w.copy = some c) (hlength : 16 ≤ c.length)
    (hstate : w.state = .filling) (hidle : w.inFlight = none) (hfill : w.fillOffset = 0) (fifo : List Record)
    (setting : Nat) (b : Bool) :
    w.flushed.judged fifo setting b = if w.flushDone then { w with flushCount := none } else w := by
  have hfull (x : Option Nat) : ({ w with flushCount := x } : Walker).fullCondition fifo = false := by
    have hremaining : ({ w with flushCount := x } : Walker).remaining = c.length := by
      simp [Walker.remaining, hcopy, hfill]
    cases fifo with
    | nil =>
      simp only [Walker.fullCondition, hremaining, Bool.or_false, decide_eq_false_iff_not]
      omega
    | cons r rest =>
      have hwords := r.words_cases
      have hfits : ({ w with flushCount := x } : Walker).fits r = true := by
        rw [Walker.fits, hremaining, decide_eq_true_eq]
        omega
      simp only [Walker.fullCondition, hremaining, hfits, Bool.not_true, Bool.or_false, decide_eq_false_iff_not]
      omega
  have hlinger (x : Option Nat) : ({ w with flushCount := x } : Walker).lingerCondition setting = false := by
    simp [Walker.lingerCondition, hfill]
  have hsettled (x : Option Nat) (hx : x ≠ some 0) :
      ({ w with flushCount := x } : Walker).settled fifo setting = true := by
    have hdone : ({ w with flushCount := x } : Walker).flushDone = false := Walker.flushDone_eq_false hx
    simp only [Walker.settled, hfull, hlinger, hdone, Bool.or_false, Bool.and_false, Bool.not_false]
  have hrest : w.atRest = true := (Walker.atRest_iff w).2 ⟨hstate, hidle⟩
  cases hdone : w.flushDone
  · have hne : w.flushCount ≠ some 0 := by simpa [Walker.flushDone] using hdone
    have hgoes : w.settled fifo setting = true := hsettled w.flushCount hne
    rw [Walker.flushed_of_not_flushEnds (Walker.flushEnds_of_settled hgoes), Walker.judged_of_settled hgoes]
    rfl
  · have hends : w.flushEnds = true := by simp [Walker.flushEnds, hrest, hdone, hfill]
    rw [Walker.flushed, if_pos hends, Walker.judged_of_settled (hsettled none (by simp))]
    rfl

/-- R99: the walker that starts to fill, through the judgement. -/
theorem State.walker_settle_enterFilling (s : State) (i : StreamId) {c : DescriptorCopy} (hlength : 16 ≤ c.length) :
    (s.enterFilling i c).settle.walker i = { s.walker i with
      state := .filling, copy := some c, fillOffset := 0, gapPresent := false, lingerAge := 0, inFlight := none
      flushCount := if (s.walker i).flushDone then none else (s.walker i).flushCount } := by
  obtain ⟨b, hb⟩ := (s.enterFilling i c).walker_settle i
  rw [State.walker_enterFilling, Walker.judged_of_empty rfl hlength rfl rfl rfl] at hb
  rw [hb]
  have hdone : ({ s.walker i with
      state := .filling, copy := some c, fillOffset := 0, gapPresent := false, lingerAge := 0
      inFlight := none } : Walker).flushDone = (s.walker i).flushDone := rfl
  rw [hdone]
  cases (s.walker i).flushDone <;> rfl

/-- R99, R109: the walker that waits, through the judgement. -/
theorem State.walker_enterWaiting (s : State) (i : StreamId) :
    (s.enterWaiting i).walker i = { s.walker i with
      state := .waiting, copy := none, inFlight := none, flushCount := none } := by
  simp [State.enterWaiting, State.walker_cutFlush, State.walker_raise]

theorem State.walker_settle_enterWaiting (s : State) (i : StreamId) :
    (s.enterWaiting i).settle.walker i = { s.walker i with
      state := .waiting, copy := none, inFlight := none, flushCount := none } := by
  rw [State.walker_settle_of_not_atRest, State.walker_enterWaiting]
  rw [State.walker_enterWaiting]
  rfl

theorem commandCompletes_enterWaiting {s u : State} (hu : u.command = s.command) {i : StreamId}
    (h : (u.walker i).flushCount.isSome = true) : CommandCompletes s (u.enterWaiting i) i 6 := by
  refine commandCompletes_cutFlush (r := .state) (by simpa using hu) ?_
  rw [State.walker_raise, State.walker_moveWalker, if_pos rfl]
  exact h

theorem State.isRaised_settle_enterWaiting (s : State) (i : StreamId) :
    (s.enterWaiting i).settle.isRaised i.starvedNotice = true := by
  have hne : i.starvedNotice ≠ .commandDone := by cases i <;> simp [StreamId.starvedNotice]
  rw [State.isRaised_settle_of_ne _ hne, State.enterWaiting, State.isRaised_cutFlush_of_ne _ _ _ hne, State.isRaised_raise]
  simp

theorem State.captureStream_judgeDescriptor (s : State) (i : StreamId) (ans : MemResponse) :
    (s.judgeDescriptor i ans).captureStream = s.captureStream := by
  unfold State.judgeDescriptor
  dsimp only
  repeat' split
  all_goals simp [State.captureStream_enterFaulted]

theorem State.takeFetch_of_aborting {s : State} {i : StreamId} (h : (s.walker i).state = .aborting) (ans : MemResponse) :
    s.takeFetch i ans = s.completeAbort i := if_pos h

theorem State.takeFetch_of_fetching {s : State} {i : StreamId} (h : (s.walker i).state = .fetching) (ans : MemResponse) :
    s.takeFetch i ans = s.judgeDescriptor i ans := if_neg (by simp [h])

theorem State.takeFetch_settle_frame (s : State) (i : StreamId) (ans : MemResponse) :
    (s.popIssued.takeFetch i ans).settle = { s with
      arbiter := { s.arbiter with issued := s.arbiter.issued.tail }
      eventStream := (s.popIssued.takeFetch i ans).settle.eventStream
      captureStream := (s.popIssued.takeFetch i ans).settle.captureStream
      eventWalker := (s.popIssued.takeFetch i ans).settle.eventWalker
      captureWalker := (s.popIssued.takeFetch i ans).settle.captureWalker
      command := (s.popIssued.takeFetch i ans).settle.command, report := (s.popIssued.takeFetch i ans).settle.report
      notices := (s.popIssued.takeFetch i ans).settle.notices
      freeCount := (s.popIssued.takeFetch i ans).settle.freeCount } := by
  apply State.eq_of_parts
  all_goals simp

/-- Settles O20: by what the answer's judgement is; in ABORTING the abort completes. -/
theorem descriptorFetchIsJudged : Obligations.DescriptorFetchIsJudged := by
  refine ⟨fun s i e code w0 w1 w2 w3 howes _ hbeats hstate hin => ?_, fun s i e ans howes _ hdata hstate hin => ?_⟩
  · have hfetching : (s.popIssued.walker i).state = .fetching := by rwa [State.walker_popIssued]
    have htake := State.takeFetch_of_fetching hfetching { code := code, data := [w0, w1, w2, w3] }
    refine ⟨(s.popIssued.takeFetch i { code := code, data := [w0, w1, w2, w3] }).settle,
      exec_descriptorFetchCompletion_of_owes howes hin (by simp [hbeats]), ?_, fun cause hcause => ?_,
      fun hcode hpass hpart => ?_, fun hcode hpass hsoftware => ?_⟩
    · have hcapture : (s.popIssued.takeFetch i { code := code, data := [w0, w1, w2, w3] }).settle.captureStream =
          s.captureStream := by
        simp [htake, State.captureStream_judgeDescriptor]
      refine (State.takeFetch_settle_frame s i _).trans ?_
      rw [hcapture]
    · obtain ⟨htaken, hresult⟩ : s.popIssued.takeFetch i { code := code, data := [w0, w1, w2, w3] } =
          s.popIssued.enterFaulted i cause ∧ cause.flushResult.code = if cause = .fetchError then 9 else 6 := by
        obtain ⟨rfl, rfl⟩ | ⟨rfl, hfails⟩ := hcause
        · exact ⟨htake.trans (State.judgeDescriptor_of_error _ rfl), rfl⟩
        · obtain ⟨hsix, hne⟩ := flushResult_of_failed hfails
          exact ⟨htake.trans (State.judgeDescriptor_of_failed hfails), by rw [if_neg hne, hsix]⟩
      rw [htaken, State.walker_settle_enterFaulted, State.walker_popIssued, ← hresult]
      refine ⟨rfl, rfl, rfl, rfl, State.isRaised_settle_enterFaulted .., ?_, fun hflush => ⟨rfl, ?_⟩⟩
      · simp [State.eventStream_enterFaulted, State.walker_popIssued]
      · have hflush' : (s.popIssued.walker i).flushCount.isSome = true := by rwa [State.walker_popIssued]
        exact (commandCompletes_enterFaulted (s := s) s.popIssued_command hflush' cause).settle
    · subst hcode
      have htaken := htake.trans (State.judgeDescriptor_of_passed hpass)
      rw [descriptorOwnedByPart_eq, if_pos hpart, if_pos rfl] at htaken
      have hlength : 16 ≤ (descriptorCopy w0 w1 w2).length :=
        (descriptorFault_none ((descriptorFault_eq i w0 w1 w2 w3).trans hpass)).1
      rw [htaken, State.walker_settle_enterFilling _ _ hlength, State.walker_popIssued]
      refine ⟨by simp, rfl, rfl, rfl, rfl, rfl, fun n hn => ?_, ?_⟩
      · have hgoes : (s.walker i).flushDone = false := Walker.flushDone_eq_false (by simp [hn])
        rw [hgoes]
        exact hn
      · rw [descriptorCopy, descriptorLink_eq, descriptorStream_of_passed hpass]
        rfl
    · subst hcode
      have htaken := htake.trans (State.judgeDescriptor_of_passed hpass)
      have howner : ¬ descriptorOwnedByPart w3 = some true := by
        rw [descriptorOwnedByPart_eq, hsoftware]
        simp
      rw [if_neg howner] at htaken
      rw [htaken, State.walker_settle_enterWaiting, State.walker_popIssued]
      refine ⟨by simp, rfl, rfl, rfl, State.isRaised_settle_enterWaiting .., fun hflush => ⟨rfl, ?_⟩⟩
      have hflush' : (s.popIssued.walker i).flushCount.isSome = true := by rwa [State.walker_popIssued]
      exact (commandCompletes_enterWaiting (s := s) s.popIssued_command hflush').settle
  · have haborting : (s.popIssued.walker i).state = .aborting := by rwa [State.walker_popIssued]
    have htake := State.takeFetch_of_aborting haborting ans
    refine ⟨(s.popIssued.takeFetch i ans).settle, exec_descriptorFetchCompletion_of_owes howes hin hdata, ?_, ?_,
      State.takeFetch_settle_frame s i ans⟩
    · have habort := abortCompletes_completeAbort (s := s) (v := s.popIssued) rfl (i := i) rfl
        fun j _ => State.stream_popIssued s j
      rwa [State.stream_popIssued, State.walker_popIssued, ← htake] at habort
    · have hne : i.starvedNotice ≠ .commandDone ∧ i.starvedNotice ≠ i.lossNotice := by
        cases i <;> simp [StreamId.starvedNotice, StreamId.lossNotice]
      rw [htake, State.isRaised_settle_of_ne _ hne.1, State.isRaised_completeAbort _ _ hne.1, decide_eq_false hne.2]
      simp [State.isRaised]

end Sys2Proof.Machine
end

section
/-! SUPPORT. A record burst's answer (R101, R102, R108, R109, R112, R114). -/

namespace Sys2Proof.Machine

/-- The judgement leaves the command unit where the event's own walker ends no flush and the other stands as before. -/
theorem State.command_settle_of_walker {s u : State} (h : s.settled = true) {i : StreamId}
    (hi : (u.walker i).flushEnds = false) (hj : ∀ j, j ≠ i → u.walker j = s.walker j) : u.settle.command = u.command := by
  refine (State.settle_quiet fun j => .inr ?_).1
  by_cases hij : j = i
  · rwa [hij]
  · rw [hj j hij]
    exact Walker.flushEnds_of_settled ((State.settled_iff s).1 h j)

/-! ## FILLING, OKAY (R101) -/

section AfterBurst
variable (w : Walker) (rs : List Record)

theorem Walker.fillOffset_afterBurst : (w.afterBurst rs).fillOffset = w.fillOffset + 4 * fifoWords rs := rfl

/-- R101: FULL after a burst: no space is left, or the head record is larger than what is. -/
theorem Walker.fullCondition_afterBurst {w : Walker} {c : DescriptorCopy} (hcopy : w.copy = some c) (rs fifo : List Record) :
    (w.afterBurst rs).fullCondition fifo = true ↔
      c.length ≤ w.fillOffset + 4 * fifoWords rs ∨
        ∃ r rest, fifo = r :: rest ∧ c.length < w.fillOffset + 4 * fifoWords rs + 4 * r.words := by
  have hcopy' : (w.afterBurst rs).copy = some c := hcopy
  have hremaining : (w.afterBurst rs).remaining = c.length - (w.fillOffset + 4 * fifoWords rs) := by
    simp only [Walker.remaining, hcopy', Walker.fillOffset_afterBurst]
  cases fifo with
  | nil =>
    simp only [Walker.fullCondition, hremaining, Bool.or_false, decide_eq_true_eq, reduceCtorEq, false_and, exists_false,
      or_false]
    omega
  | cons r rest =>
    simp only [Walker.fullCondition, Walker.fits, hremaining, Bool.or_eq_true, Bool.not_eq_true', decide_eq_true_eq,
      decide_eq_false_iff_not, List.cons.injEq]
    have hwords := r.words_cases
    constructor
    · rintro (h | h)
      · exact .inl (by omega)
      · exact .inr ⟨r, rest, ⟨rfl, rfl⟩, by omega⟩
    · rintro (h | ⟨r', rest', ⟨rfl, rfl⟩, h⟩)
      · exact .inl (by omega)
      · exact .inr (by omega)

theorem Walker.atRest_afterBurst {w : Walker} (h : w.state = .filling) (rs : List Record) : (w.afterBurst rs).atRest = true :=
  (Walker.atRest_iff _).2 ⟨h, rfl⟩

/-- R108: the flush reaches its end point with the burst. -/
theorem Walker.flushDone_afterBurst_iff : (w.afterBurst rs).flushDone = true ↔
    ∃ n, w.flushCount = some n ∧ n ≤ rs.length := by
  have hcount : (w.afterBurst rs).flushCount = w.flushCount.map (· - rs.length) := rfl
  rw [Walker.flushDone, hcount, decide_eq_true_eq]
  cases w.flushCount with
  | none => simp
  | some n =>
    simp only [Option.map_some, Option.some.injEq, exists_eq_left']
    omega

/-- R101, R108: the judgement after a burst, whose age is 0, where no flush ends over an empty buffer. -/
theorem Walker.judged_afterBurst {w : Walker} (hstate : w.state = .filling) (rs : List Record)
    (hends : (w.afterBurst rs).flushEnds = false) (fifo : List Record) (setting : Nat) (b : Bool) :
    (w.afterBurst rs).flushed.judged fifo setting b =
      if (w.afterBurst rs).fullCondition fifo then (w.afterBurst rs).closedBy .full
      else if (w.afterBurst rs).flushDone then (w.afterBurst rs).closedBy .flush
      else w.afterBurst rs := by
  have hyoung : (w.afterBurst rs).lingerCondition setting = false := by
    rw [← Bool.not_eq_true, Walker.lingerCondition_iff]
    rintro ⟨-, hne, hle⟩
    exact hne (Nat.le_zero.1 hle)
  rw [Walker.flushed_of_not_flushEnds hends, Walker.judged, if_pos (Walker.atRest_afterBurst hstate rs), hyoung]
  cases (w.afterBurst rs).flushDone <;> cases (w.afterBurst rs).fullCondition fifo <;> rfl

end AfterBurst

theorem State.takeBurst_okay_of_filling {s : State} {i : StreamId} (h : (s.walker i).state = .filling) (rs : List Record) :
    s.takeBurst i rs .okay = s.setWalker i ((s.walker i).afterBurst rs) := by
  have hne : ¬ (s.walker i).state = .aborting := by simp [h]
  exact if_neg hne

theorem State.takeBurst_okay_of_aborting {s : State} {i : StreamId} (h : (s.walker i).state = .aborting) (rs : List Record) :
    s.takeBurst i rs .okay = (s.setWalker i ((s.walker i).afterBurst rs)).abortFilled i := if_pos h

theorem State.takeBurst_error_of_filling {s : State} {i : StreamId} (h : (s.walker i).state = .filling) (rs : List Record) :
    s.takeBurst i rs .error = (s.countLost i rs.length).enterFaulted i .burstError := by
  have hne : ¬ (s.walker i).state = .aborting := by simp [h]
  exact if_neg hne

theorem State.takeBurst_error_of_aborting {s : State} {i : StreamId} (h : (s.walker i).state = .aborting) (rs : List Record) :
    s.takeBurst i rs .error = ((s.countLost i rs.length).setWalker i
      { s.walker i with inFlight := none, abortError := true }).abortFilled i := by
  rw [← State.walker_countLost s i i rs.length]
  exact if_pos h

theorem State.takeBurst_settle_frame (s : State) (i : StreamId) (rs : List Record) (code : RespCode) :
    (s.popIssued.takeBurst i rs code).settle = { s with
      arbiter := { s.arbiter with issued := s.arbiter.issued.tail }
      eventStream := (s.popIssued.takeBurst i rs code).settle.eventStream
      captureStream := (s.popIssued.takeBurst i rs code).settle.captureStream
      eventWalker := (s.popIssued.takeBurst i rs code).settle.eventWalker
      captureWalker := (s.popIssued.takeBurst i rs code).settle.captureWalker
      command := (s.popIssued.takeBurst i rs code).settle.command
      report := (s.popIssued.takeBurst i rs code).settle.report
      notices := (s.popIssued.takeBurst i rs code).settle.notices
      freeCount := (s.popIssued.takeBurst i rs code).settle.freeCount } := by
  apply State.eq_of_parts
  all_goals simp

/-! ## ABORTING (R112) -/

theorem State.abortFilled_of_filled {s : State} {i : StreamId} (h : 0 < (s.walker i).fillOffset) :
    s.abortFilled i = s.moveWalker i { s.walker i with state := .aborting, closeReason := some .abort } := if_pos h

theorem State.abortFilled_of_empty {s : State} {i : StreamId} (h : (s.walker i).fillOffset = 0) :
    s.abortFilled i = s.completeAbort i := if_neg (by omega)

theorem State.stands_requester (s : State) (i : StreamId) : s.stands i.requester = s.walkerStands i := by
  cases i <;> rfl

/-- R112, R113: the part-filled buffer of an abort is to be written back: its status write stands, and nothing else has
changed. -/
theorem State.settle_abortFilled_of_filled {v : State} {i : StreamId} (hstate : (v.walker i).state = .aborting)
    (hidle : (v.walker i).inFlight = none) (hfill : 0 < (v.walker i).fillOffset) :
    (v.abortFilled i).settle.walker i = { v.walker i with closeReason := some .abort } ∧
      (v.abortFilled i).settle.stands i.requester = true ∧
      (∀ j, (v.abortFilled i).settle.stream j = v.stream j) ∧
      (∀ m, m ≠ .commandDone → (v.abortFilled i).settle.isRaised m = v.isRaised m) ∧
      ∀ s : State, s.settled = true → v.command = s.command → (∀ j, j ≠ i → v.walker j = s.walker j) →
        (v.abortFilled i).settle.command = s.command := by
  have hmoved : (v.abortFilled i).walker i = { v.walker i with closeReason := some .abort } := by
    rw [State.abortFilled_of_filled hfill, State.walker_moveWalker, if_pos rfl, ← hstate]
  have hrest : ((v.abortFilled i).walker i).atRest = false := by
    rw [hmoved]
    exact Walker.atRest_of_state_ne (by simp [hstate])
  have hwalker : (v.abortFilled i).settle.walker i = { v.walker i with closeReason := some .abort } :=
    (State.walker_settle_of_not_atRest hrest).trans hmoved
  refine ⟨hwalker, ?_, fun j => ?_, fun m hm => ?_, fun s hsettled hcommand hother => ?_⟩
  · rw [State.stands_requester, State.walkerStands, hwalker]
    simp [Walker.wantsStatus, hstate, hidle]
  · rw [State.stream_settle, State.abortFilled_of_filled hfill, State.stream_moveWalker]
  · rw [State.isRaised_settle_of_ne _ hm, State.abortFilled_of_filled hfill, State.isRaised_moveWalker]
  · rw [State.command_settle_of_walker hsettled (Walker.flushEnds_of_not_atRest hrest), State.abortFilled_of_filled hfill]
    · simpa using hcommand
    · intro j hj
      rw [State.abortFilled_of_filled hfill, State.walker_moveWalker, if_neg hj, hother j hj]

/-! ## The four outcomes -/

/-- R101, R108: OKAY while FILLING. -/
theorem burst_okay_filling {s : State} {i : StreamId} {rs : List Record} {c : DescriptorCopy}
    (hcopy : (s.walker i).copy = some c) (hstate : (s.walker i).state = .filling) {t : State}
    (ht : t = (s.popIssued.takeBurst i rs .okay).settle) :
    let filled := (s.walker i).fillOffset + 4 * fifoWords rs
    let full : Prop := c.length ≤ filled ∨ ∃ r rest, (s.stream i).fifo = r :: rest ∧ c.length < filled + 4 * r.words
    ((t.walker i).fillOffset = filled ∧ (t.walker i).lingerAge = 0 ∧
      (t.walker i).gapPresent = ((s.walker i).gapPresent || rs.any Record.isGap) ∧ (t.walker i).inFlight = none ∧
      (t.walker i).copy = some c ∧ (s.settled = true → 0 < filled → t.command = s.command)) ∧
      (t.eventStream = s.eventStream ∧ t.captureStream = s.captureStream) ∧
      (0 < filled → (t.walker i).flushCount = (s.walker i).flushCount.map (· - rs.length)) ∧
      (0 < filled → full → (t.walker i).state = .closing ∧ (t.walker i).closeReason = some .full) ∧
      (0 < filled → ¬ full → ∀ n, (s.walker i).flushCount = some n → n ≤ rs.length →
        (t.walker i).state = .closing ∧ (t.walker i).closeReason = some .flush) ∧
      (¬ full → (∀ n, (s.walker i).flushCount = some n → rs.length < n) → (t.walker i).state = .filling) := by
  intro filled full
  have hstate' : (s.popIssued.walker i).state = .filling := by rwa [State.walker_popIssued]
  have htaken : s.popIssued.takeBurst i rs .okay = s.popIssued.setWalker i ((s.walker i).afterBurst rs) := by
    rw [State.takeBurst_okay_of_filling hstate', State.walker_popIssued]
  have hself : (s.popIssued.takeBurst i rs .okay).walker i = (s.walker i).afterBurst rs := by
    rw [htaken, State.walker_setWalker, if_pos rfl]
  have hstream : (s.popIssued.takeBurst i rs .okay).stream i = s.stream i := by
    rw [htaken, State.stream_setWalker, State.stream_popIssued]
  obtain ⟨-, hkcopy, hkfill, hkgap, hkage, hktx, -⟩ := (s.popIssued.takeBurst i rs .okay).walker_settle_keeps i
  rw [hself] at hkcopy hkfill hkgap hkage hktx
  obtain ⟨b, hb⟩ := (s.popIssued.takeBurst i rs .okay).walker_settle i
  rw [hself, hstream] at hb
  have hfull := Walker.fullCondition_afterBurst hcopy rs (s.stream i).fifo
  have hends (hfill : 0 < filled) : ((s.walker i).afterBurst rs).flushEnds = false := Walker.flushEnds_of_filled hfill
  have hjudged (h : ((s.walker i).afterBurst rs).flushEnds = false) := hb.trans (Walker.judged_afterBurst hstate rs h _ _ b)
  subst ht
  refine ⟨⟨hkfill, hkage, hkgap, hktx, hkcopy.trans hcopy, fun hsettled hfill => ?_⟩, ⟨?_, ?_⟩, fun hfill => ?_,
    fun hfill hf => ?_, fun hfill hf n hn hle => ?_, fun hf hgoes => ?_⟩
  · have hother (j : StreamId) (hj : j ≠ i) : (s.popIssued.takeBurst i rs .okay).walker j = s.walker j := by
      rw [htaken, State.walker_setWalker, if_neg hj, State.walker_popIssued]
    rw [State.command_settle_of_walker hsettled (by rw [hself]; exact hends hfill) hother, htaken]
    simp
  · simp [htaken]
  · simp [htaken]
  · rw [hjudged (hends hfill)]
    split
    · rfl
    · split <;> rfl
  · rw [hjudged (hends hfill), if_pos (hfull.2 hf)]
    exact ⟨rfl, rfl⟩
  · have hdone := (Walker.flushDone_afterBurst_iff (s.walker i) rs).2 ⟨n, hn, hle⟩
    rw [hjudged (hends hfill), if_neg (fun h => hf (hfull.1 h)), if_pos hdone]
    exact ⟨rfl, rfl⟩
  · have hdone : ¬ ((s.walker i).afterBurst rs).flushDone = true := by
      rw [Walker.flushDone_afterBurst_iff]
      rintro ⟨n, hn, hle⟩
      exact absurd (hgoes n hn) (by omega)
    rw [hjudged (Walker.flushEnds_of_not_flushDone (by simpa using hdone)), if_neg (fun h => hf (hfull.1 h)), if_neg hdone]
    exact hstate

theorem State.stream_countLost_popIssued (s : State) (i j : StreamId) (k : Nat) :
    (s.popIssued.countLost i k).stream j = if j = i then (s.stream i).afterLosing k else s.stream j := by
  by_cases hj : j = i
  · rw [if_pos hj, hj, State.stream_countLost_self, State.stream_popIssued]
  · rw [if_neg hj, State.stream_countLost, if_neg (fun h => hj h.1), State.stream_popIssued]

/-- R83, R109, R115: ERROR while FILLING. -/
theorem burst_error_filling {s : State} {i : StreamId} {rs : List Record} (hstate : (s.walker i).state = .filling) {t : State}
    (ht : t = (s.popIssued.takeBurst i rs .error).settle) :
    (t.walker i).state = .faulted ∧ (t.walker i).copy = none ∧ (t.walker i).current = (s.walker i).current ∧
      (t.walker i).fillOffset = (s.walker i).fillOffset ∧ t.isRaised .chainFault = true ∧
      (0 < rs.length → t.isRaised i.lossNotice = true) ∧
      (let fault := Record.chainFault i .burstError (s.walker i).current s.time.tick;
        (i = .capture → t.captureStream = (s.stream i).afterLosing rs.length ∧
          t.eventStream = s.eventStream.afterOffer .event s.time.tick fault) ∧
        (i = .event → t.captureStream = s.captureStream ∧
          t.eventStream = ((s.stream i).afterLosing rs.length).afterOffer .event s.time.tick fault)) ∧
      ((s.walker i).flushCount.isSome = true → (t.walker i).flushCount = none ∧ CommandCompletes s t i 9) := by
  have hstate' : (s.popIssued.walker i).state = .filling := by rwa [State.walker_popIssued]
  rw [State.takeBurst_error_of_filling hstate'] at ht
  have hwalker : (s.popIssued.countLost i rs.length).walker i = s.walker i :=
    (State.walker_countLost ..).trans (s.walker_popIssued i)
  have hstream := s.stream_countLost_popIssued i
  have htick : (s.popIssued.countLost i rs.length).time = s.time := by simp
  have hloss : i.lossNotice ≠ .commandDone := by cases i <;> simp [StreamId.lossNotice]
  have hevent : t.eventStream = ((s.popIssued.countLost i rs.length).stream .event).afterOffer .event s.time.tick
      (.chainFault i .burstError (s.walker i).current s.time.tick) := by
    rw [ht, State.eventStream_settle, State.eventStream_enterFaulted, hwalker, htick]
    rfl
  have hcapture : t.captureStream = (s.popIssued.countLost i rs.length).stream .capture := by
    rw [ht, State.captureStream_settle, State.captureStream_enterFaulted]
    rfl
  have hself : t.walker i = { s.walker i with
      state := .faulted, copy := none, closeReason := none, inFlight := none, flushCount := none } := by
    rw [ht, State.walker_settle_enterFaulted, hwalker]
  rw [hself, hevent, hcapture, hstream, hstream]
  refine ⟨rfl, rfl, rfl, rfl, ?_, fun hlost => ?_, ⟨?_, ?_⟩, fun hflush => ⟨rfl, ?_⟩⟩
  · rw [ht]
    exact State.isRaised_settle_enterFaulted ..
  · rw [ht, State.isRaised_settle_of_ne _ hloss, State.isRaised_enterFaulted _ _ _ hloss, State.isRaised_countLost]
    simp [Nat.pos_iff_ne_zero.1 hlost]
  · rintro rfl
    exact ⟨rfl, rfl⟩
  · rintro rfl
    exact ⟨rfl, rfl⟩
  · have hcommand : (s.popIssued.countLost i rs.length).command = s.command := by simp
    rw [ht]
    exact (commandCompletes_enterFaulted hcommand (by rwa [hwalker]) .burstError).settle

/-- R112, R114: OKAY in ABORTING. -/
theorem burst_okay_aborting {s : State} {i : StreamId} {rs : List Record} (hstate : (s.walker i).state = .aborting) {t : State}
    (ht : t = (s.popIssued.takeBurst i rs .okay).settle) :
    let filled := (s.walker i).fillOffset + 4 * fifoWords rs
    (0 < filled → t.walker i = { s.walker i with
        fillOffset := filled, gapPresent := (s.walker i).gapPresent || rs.any Record.isGap, lingerAge := 0
        flushCount := (s.walker i).flushCount.map (· - rs.length), inFlight := none, closeReason := some .abort } ∧
      t.stands i.requester = true ∧ (s.settled = true → t.command = s.command) ∧ ∀ j, t.stream j = s.stream j) ∧
      (filled = 0 → AbortCompletes s t i (s.stream i) (s.walker i).abortError) := by
  intro filled
  have hstate' : (s.popIssued.walker i).state = .aborting := by rwa [State.walker_popIssued]
  rw [State.takeBurst_okay_of_aborting hstate', State.walker_popIssued] at ht
  have hself : (s.popIssued.setWalker i ((s.walker i).afterBurst rs)).walker i = (s.walker i).afterBurst rs := by
    rw [State.walker_setWalker, if_pos rfl]
  have hstream (j : StreamId) : (s.popIssued.setWalker i ((s.walker i).afterBurst rs)).stream j = s.stream j := by
    rw [State.stream_setWalker, State.stream_popIssued]
  have hcommand : (s.popIssued.setWalker i ((s.walker i).afterBurst rs)).command = s.command := by simp
  subst ht
  refine ⟨fun hfill => ?_, fun hempty => ?_⟩
  · obtain ⟨hwalker, hstands, hstreams, -, hquiet⟩ := State.settle_abortFilled_of_filled
      (by rw [hself]; exact hstate) (by rw [hself]; rfl) (by rw [hself]; exact hfill)
    refine ⟨?_, hstands, fun hsettled => hquiet s hsettled hcommand fun j hj => ?_, fun j => (hstreams j).trans (hstream j)⟩
    · rw [hwalker, hself]
      rfl
    · rw [State.walker_setWalker, if_neg hj, State.walker_popIssued]
  · rw [State.abortFilled_of_empty (by rw [hself]; exact hempty)]
    have habort := abortCompletes_completeAbort (s := s) hcommand (i := i)
      ((State.isRaised_setWalker ..).trans (State.isRaised_congr rfl _)) fun j _ => hstream j
    rwa [hstream, hself] at habort

/-- R83, R112, R114: ERROR in ABORTING. -/
theorem burst_error_aborting {s : State} {i : StreamId} {rs : List Record} (hstate : (s.walker i).state = .aborting)
    {t : State} (ht : t = (s.popIssued.takeBurst i rs .error).settle) :
    (0 < rs.length → t.isRaised i.lossNotice = true) ∧
      (0 < (s.walker i).fillOffset → t.walker i = { s.walker i with
          inFlight := none, abortError := true, closeReason := some .abort } ∧ t.stands i.requester = true ∧
        t.stream i = (s.stream i).afterLosing rs.length ∧ t.isRaised .chainFault = s.isRaised .chainFault ∧
        (s.settled = true → t.command = s.command) ∧ ∀ j, j ≠ i → t.stream j = s.stream j) ∧
      ((s.walker i).fillOffset = 0 → AbortCompletes s t i ((s.stream i).afterLosing rs.length) true) := by
  have hstate' : (s.popIssued.walker i).state = .aborting := by rwa [State.walker_popIssued]
  rw [State.takeBurst_error_of_aborting hstate', State.walker_popIssued] at ht
  generalize hv : (s.popIssued.countLost i rs.length).setWalker i
    { s.walker i with inFlight := none, abortError := true } = v at ht
  have hself : v.walker i = { s.walker i with inFlight := none, abortError := true } := by
    rw [← hv, State.walker_setWalker, if_pos rfl]
  have hstream (j : StreamId) : v.stream j = if j = i then (s.stream i).afterLosing rs.length else s.stream j := by
    rw [← hv, State.stream_setWalker, State.stream_countLost_popIssued]
  have hcommand : v.command = s.command := by simp [← hv]
  have hloss : i.lossNotice ≠ .commandDone ∧ Notice.chainFault ≠ i.lossNotice := by
    cases i <;> simp [StreamId.lossNotice]
  have hraised (m : Notice) : v.isRaised m = (s.isRaised m || (decide (rs.length ≠ 0) && decide (m = i.lossNotice))) := by
    rw [← hv, State.isRaised_setWalker, State.isRaised_countLost]
    rfl
  have hfault : v.isRaised .chainFault = s.isRaised .chainFault := by
    rw [hraised, decide_eq_false hloss.2, Bool.and_false, Bool.or_false]
  have hlost (hpos : 0 < rs.length) : v.isRaised i.lossNotice = true := by
    simp [hraised, Nat.pos_iff_ne_zero.1 hpos]
  subst ht
  refine ⟨fun hpos => ?_, fun hfill => ?_, fun hempty => ?_⟩
  · rw [State.isRaised_settle_of_ne _ hloss.1, State.abortFilled]
    split
    · rw [State.isRaised_moveWalker]
      exact hlost hpos
    · rw [State.isRaised_completeAbort _ _ hloss.1, hlost hpos]
      rfl
  · obtain ⟨hwalker, hstands, hstreams, hnotices, hquiet⟩ := State.settle_abortFilled_of_filled
      (by rw [hself]; exact hstate) (by rw [hself]) (by rw [hself]; exact hfill)
    refine ⟨?_, hstands, ?_, (hnotices _ (by simp)).trans hfault, fun hsettled => hquiet s hsettled hcommand fun j hj => ?_,
      fun j hj => ?_⟩
    · rw [hwalker, hself]
    · rw [hstreams, hstream, if_pos rfl]
    · rw [← hv, State.walker_setWalker, if_neg hj, State.walker_countLost, State.walker_popIssued]
    · rw [hstreams, hstream, if_neg hj]
  · rw [State.abortFilled_of_empty (by rw [hself]; exact hempty)]
    have habort := abortCompletes_completeAbort (s := s) hcommand (i := i) hfault
      fun j hj => (hstream j).trans (if_neg hj)
    rwa [hstream, if_pos rfl, hself] at habort

/-- Settles O21: by the walker's state and the answer's code. -/
theorem recordBurstAdvancesOrFaults : Obligations.RecordBurstAdvancesOrFaults := by
  intro s i e rs c howes hin hcopy filled full counted
  have hrow := exec_recordBurstCompletion_of_owes howes hin
  refine ⟨fun hstate => ⟨_, hrow .okay, ?_⟩, fun hstate => ⟨_, hrow .error, ?_⟩, fun hstate => ⟨_, hrow .okay, ?_⟩,
    fun hstate => ⟨_, hrow .error, ?_⟩⟩
  · obtain ⟨⟨hfill, hage, hgap, htx, hcopied, hcommand⟩, ⟨hevent, hcapture⟩, hrest⟩ := burst_okay_filling hcopy hstate rfl
    refine ⟨hfill, hage, hgap, htx, hcopied, hcommand, ?_, hrest⟩
    have hframe := State.takeBurst_settle_frame s i rs .okay
    rwa [hevent, hcapture] at hframe
  · obtain ⟨hfaulted, hcopied, hcurrent, hfill, hraised, hlost, hstreams, hflush⟩ := burst_error_filling hstate rfl
    exact ⟨hfaulted, hcopied, hcurrent, hfill, hraised, hlost, hstreams, hflush, State.takeBurst_settle_frame ..⟩
  · obtain ⟨hfilled, hempty⟩ := burst_okay_aborting hstate rfl
    exact ⟨hfilled, hempty, State.takeBurst_settle_frame ..⟩
  · obtain ⟨hlost, hfilled, hempty⟩ := burst_error_aborting hstate rfl
    exact ⟨hlost, hfilled, hempty, State.takeBurst_settle_frame ..⟩

end Sys2Proof.Machine
end

section
/-! SUPPORT. A status write's answer (R104, R108, R109, R112 to R115). -/

namespace Sys2Proof.Machine

/-! ## The flush at a close (R108, R109) -/

theorem State.flushAtClose_of_done {s : State} {i : StreamId} (h : (s.walker i).flushCount = some 0) (ended : Bool) :
    s.flushAtClose i ended = s.endFlush i .done := by
  simp only [State.flushAtClose, h]

theorem State.flushAtClose_of_ended {s : State} {i : StreamId} {n : Nat} (h : (s.walker i).flushCount = some (n + 1)) :
    s.flushAtClose i true = s.endFlush i .state := by
  simp only [State.flushAtClose, h, if_true]

theorem State.flushAtClose_of_goes {s : State} {i : StreamId} {n : Nat} (h : (s.walker i).flushCount = some (n + 1)) :
    s.flushAtClose i false = s := by
  simp only [State.flushAtClose, h]
  exact if_neg (by simp)

theorem State.flushAtClose_of_none {s : State} {i : StreamId} (h : (s.walker i).flushCount = none) (ended : Bool) :
    s.flushAtClose i ended = s := by
  simp only [State.flushAtClose, h]

/-- The flush that a close may end, or leave: the state as it stands, or its flush ended. -/
theorem State.flushAtClose_cases (s : State) (i : StreamId) (ended : Bool) :
    s.flushAtClose i ended = s ∨ ∃ r, s.flushAtClose i ended = s.endFlush i r := by
  unfold State.flushAtClose
  split
  · exact .inr ⟨_, rfl⟩
  · split
    · exact .inr ⟨_, rfl⟩
    · exact .inl rfl
  · exact .inl rfl

/-- A flush's end at a close changes nothing of the walker but the flush count. -/
theorem State.walker_flushAtClose (s : State) (i : StreamId) (ended : Bool) :
    ∃ f, (s.flushAtClose i ended).walker i = { s.walker i with flushCount := f } := by
  obtain h | ⟨r, h⟩ := s.flushAtClose_cases i ended
  · exact ⟨(s.walker i).flushCount, by rw [h]⟩
  · exact ⟨none, by rw [h, State.walker_endFlush, if_pos rfl]⟩

theorem State.isRaised_flushAtClose (s : State) (i : StreamId) (ended : Bool) {m : Notice} (hm : m ≠ .commandDone) :
    (s.flushAtClose i ended).isRaised m = s.isRaised m := by
  obtain h | ⟨r, h⟩ := s.flushAtClose_cases i ended
  · rw [h]
  · rw [h, State.isRaised_endFlush_of_ne _ _ _ hm]

theorem State.isDirty_flushAtClose_of_isDirty {s : State} {d : Section} (hd : s.isDirty d = true) (i : StreamId) (ended : Bool) :
    (s.flushAtClose i ended).isDirty d = true := by
  obtain h | ⟨r, h⟩ := s.flushAtClose_cases i ended
  · rwa [h]
  · rw [h]
    exact State.isDirty_finish_of_isDirty (by rwa [State.isDirty_setWalker]) ..

/-! ## CLOSING, OKAY (R104) -/

/-- The walker whose status write is answered. -/
def State.statusTaken (s : State) (i : StreamId) : State :=
  s.popIssued.setWalker i { s.walker i with inFlight := none }

theorem State.walker_statusTaken (s : State) (i j : StreamId) :
    (s.statusTaken i).walker j = if j = i then { s.walker i with inFlight := none } else s.walker j := by
  rw [State.statusTaken, State.walker_setWalker, State.walker_popIssued]

theorem State.stream_statusTaken (s : State) (i j : StreamId) : (s.statusTaken i).stream j = s.stream j := by
  rw [State.statusTaken, State.stream_setWalker, State.stream_popIssued]

theorem State.command_statusTaken (s : State) (i : StreamId) : (s.statusTaken i).command = s.command := by
  simp [State.statusTaken]

theorem State.isRaised_statusTaken (s : State) (i : StreamId) (m : Notice) : (s.statusTaken i).isRaised m = s.isRaised m :=
  State.isRaised_congr (by simp [State.statusTaken]) m

theorem State.takeStatus_popIssued_of_closing {s : State} {i : StreamId} {c : DescriptorCopy}
    (h : (s.walker i).state = .closing) (hcopy : (s.walker i).copy = some c) (code : RespCode) :
    s.popIssued.takeStatus i code = (s.statusTaken i).closeCompleted i c code := by
  have hne : ¬ (s.walker i).state = .aborting := by simp [h]
  simp only [State.takeStatus, State.walker_popIssued, if_neg hne]
  split
  next c' hc' =>
    cases hcopy.symm.trans hc'
    rfl
  next hnone => cases hcopy.symm.trans hnone

theorem State.takeStatus_popIssued_of_aborting {s : State} {i : StreamId} (h : (s.walker i).state = .aborting)
    (code : RespCode) : s.popIssued.takeStatus i code = (s.statusTaken i).abortCloseCompleted i code := by
  simp only [State.takeStatus, State.walker_popIssued, if_pos h]
  rfl

/-- R104: the buffer is handed back, and the walker follows the link or ends its chain. -/
def State.handedBack (s : State) (i : StreamId) (c : DescriptorCopy) : State :=
  if c.last then (s.bufferClosed i).enterEnded i else (s.bufferClosed i).followLink i c.link

theorem State.closeCompleted_okay (s : State) (i : StreamId) (c : DescriptorCopy) :
    s.closeCompleted i c .okay = (s.handedBack i c).flushAtClose i c.last := by
  unfold State.closeCompleted State.handedBack
  cases c.last <;> rfl

theorem State.walker_bufferClosed (s : State) (i j : StreamId) : (s.bufferClosed i).walker j = s.walker j :=
  State.walker_congr (by simp) (by simp) j

/-- R104: the walker after its buffer is handed back. -/
def Walker.handedBack (w : Walker) (c : DescriptorCopy) : Walker :=
  if c.last then { w with state := .ended, copy := none, closeReason := none, inFlight := none }
  else { w with
    state := .fetching, current := c.link, copy := none, fillOffset := 0, gapPresent := false, lingerAge := 0,
    closeReason := none, inFlight := none }

theorem State.walker_handedBack (s : State) (i j : StreamId) (c : DescriptorCopy) :
    (s.handedBack i c).walker j = if j = i then (s.walker i).handedBack c else s.walker j := by
  unfold State.handedBack Walker.handedBack State.enterEnded State.followLink
  cases c.last <;>
    simp only [if_true, Bool.false_eq_true, if_false, State.walker_raise, State.walker_moveWalker, State.walker_bufferClosed]

theorem Walker.handedBack_keeps (w : Walker) (c : DescriptorCopy) :
    (w.handedBack c).copy = none ∧ (w.handedBack c).inFlight = none ∧ (w.handedBack c).flushCount = w.flushCount ∧
      (w.handedBack c).state ≠ .filling := by
  unfold Walker.handedBack
  split <;> simp

theorem StreamId.bufferNotice_ne (i : StreamId) : i.bufferNotice ≠ .commandDone ∧ i.bufferNotice ≠ .chainFault ∧
    i.bufferNotice ≠ .eventLoss ∧ i.bufferNotice ≠ i.lossNotice ∧ Notice.chainEnd ≠ i.lossNotice ∧
    Notice.chainEnd ≠ i.bufferNotice ∧ i.bufferNotice ≠ .chainEnd ∧ Notice.chainFault ≠ i.bufferNotice := by
  cases i <;> simp [StreamId.bufferNotice, StreamId.lossNotice]

theorem State.isRaised_bufferClosed (s : State) (i : StreamId) (m : Notice) :
    (s.bufferClosed i).isRaised m = (s.isRaised m || decide (m = i.bufferNotice)) := by
  rw [State.bufferClosed, State.isRaised_markDirty, State.isRaised_raise]

theorem State.isRaised_handedBack (s : State) (i : StreamId) (c : DescriptorCopy) :
    (s.handedBack i c).isRaised i.bufferNotice = true ∧
      (c.last = true → (s.handedBack i c).isRaised .chainEnd = true) := by
  unfold State.handedBack State.enterEnded State.followLink
  cases c.last <;> simp [State.isRaised_bufferClosed]

theorem State.isDirty_handedBack (s : State) (i : StreamId) (c : DescriptorCopy) :
    (s.handedBack i c).isDirty i.reportSection = true := by
  unfold State.handedBack State.enterEnded State.followLink State.bufferClosed
  cases c.last <;> simp

theorem State.command_handedBack (s : State) (i : StreamId) (c : DescriptorCopy) :
    (s.handedBack i c).command = s.command := by
  unfold State.handedBack
  cases c.last <;> simp

theorem State.takeStatus_settle_frame (s : State) (i : StreamId) (code : RespCode) :
    (s.popIssued.takeStatus i code).settle = { s with
      arbiter := { s.arbiter with issued := s.arbiter.issued.tail }
      eventStream := (s.popIssued.takeStatus i code).settle.eventStream
      captureStream := (s.popIssued.takeStatus i code).settle.captureStream
      eventWalker := (s.popIssued.takeStatus i code).settle.eventWalker
      captureWalker := (s.popIssued.takeStatus i code).settle.captureWalker
      command := (s.popIssued.takeStatus i code).settle.command
      report := (s.popIssued.takeStatus i code).settle.report
      notices := (s.popIssued.takeStatus i code).settle.notices
      freeCount := (s.popIssued.takeStatus i code).settle.freeCount } := by
  apply State.eq_of_parts
  all_goals simp

/-- R104, R108, R109: OKAY in CLOSING. -/
theorem status_okay_closing {s : State} {i : StreamId} {c : DescriptorCopy} (hstate : (s.walker i).state = .closing)
    (hcopy : (s.walker i).copy = some c) {t : State} (ht : t = (s.popIssued.takeStatus i .okay).settle) :
    (t.isRaised i.bufferNotice = true ∧ (t.walker i).copy = none ∧ (t.walker i).inFlight = none ∧
      t.isDirty i.reportSection = true) ∧
      (t.eventStream = s.eventStream ∧ t.captureStream = s.captureStream) ∧
      (c.last = false → (t.walker i).state = .fetching ∧ (t.walker i).current = c.link ∧ (t.walker i).fillOffset = 0 ∧
        (t.walker i).gapPresent = false ∧ (t.walker i).lingerAge = 0) ∧
      (c.last = true → (t.walker i).state = .ended ∧ (t.walker i).current = (s.walker i).current ∧
        (t.walker i).fillOffset = (s.walker i).fillOffset ∧ t.isRaised .chainEnd = true) ∧
      ((s.walker i).flushCount = some 0 → (t.walker i).flushCount = none ∧ CommandCompletes s t i 1) ∧
      (∀ n, (s.walker i).flushCount = some (n + 1) →
        (c.last = true → (t.walker i).flushCount = none ∧ CommandCompletes s t i 6) ∧
        (c.last = false → (t.walker i).flushCount = some (n + 1) ∧ (s.settled = true → t.command = s.command))) ∧
      (s.settled = true → (s.walker i).flushCount = none → t.command = s.command) := by
  rw [State.takeStatus_popIssued_of_closing hstate hcopy, State.closeCompleted_okay] at ht
  generalize hv : (s.statusTaken i).handedBack i c = v at ht
  have hself : v.walker i = ({ s.walker i with inFlight := none } : Walker).handedBack c := by
    rw [← hv, State.walker_handedBack, if_pos rfl, State.walker_statusTaken, if_pos rfl]
  have hother (j : StreamId) (hj : j ≠ i) : v.walker j = s.walker j := by
    rw [← hv, State.walker_handedBack, if_neg hj, State.walker_statusTaken, if_neg hj]
  obtain ⟨hgone, hidle, hcount, hleft⟩ := Walker.handedBack_keeps { s.walker i with inFlight := none } c
  rw [← hself] at hgone hidle hcount hleft
  have hcommand : v.command = s.command := by rw [← hv, State.command_handedBack, State.command_statusTaken]
  obtain ⟨hnotice, hchainEnd⟩ := State.isRaised_handedBack (s.statusTaken i) i c
  rw [hv] at hnotice hchainEnd
  obtain ⟨f, hf⟩ := v.walker_flushAtClose i c.last
  have hrest (r : Walker) (hr : r.state = (v.walker i).state) : r.atRest = false :=
    Walker.atRest_of_state_ne (by rwa [hr])
  have hwalker : t.walker i = { v.walker i with flushCount := f } := by
    rw [ht, State.walker_settle_of_not_atRest (by rw [hf]; exact hrest _ rfl), hf]
  have hends {r : Result} (h : v.flushAtClose i c.last = v.endFlush i r) :
      (t.walker i).flushCount = none ∧ CommandCompletes s t i r.code := by
    have hended : (v.endFlush i r).walker i = { v.walker i with flushCount := none } := by
      rw [State.walker_endFlush, if_pos rfl]
    rw [ht, h, State.walker_settle_of_not_atRest (by rw [hended]; exact hrest _ rfl), hended]
    exact ⟨rfl, (commandCompletes_endFlush hcommand i r).settle⟩
  have hgoes (h : v.flushAtClose i c.last = v) : (t.walker i).flushCount = (s.walker i).flushCount ∧
      (s.settled = true → t.command = s.command) := by
    rw [ht, h, State.walker_settle_of_not_atRest (hrest _ rfl)]
    refine ⟨hcount, fun hsettled => ?_⟩
    rw [State.command_settle_of_walker hsettled (Walker.flushEnds_of_not_atRest (hrest _ rfl)) hother, hcommand]
  obtain ⟨hdone, -⟩ := i.bufferNotice_ne
  have hstreams (j : StreamId) : t.stream j = s.stream j := by
    have hframe : v.stream j = (s.statusTaken i).stream j := by
      rw [← hv]
      cases j <;> cases hlast : c.last <;> simp [State.handedBack, hlast, State.stream]
    have hflush : (v.flushAtClose i c.last).stream j = v.stream j := by cases j <;> simp [State.stream]
    rw [ht, State.stream_settle, hflush, hframe, State.stream_statusTaken]
  refine ⟨⟨?_, ?_, ?_, ?_⟩, ⟨hstreams .event, hstreams .capture⟩, fun hlast => ?_, fun hlast => ?_, fun hzero => ?_,
    fun n hn => ⟨fun hlast => ?_, fun hlast => ?_⟩, fun hsettled hnone => ?_⟩
  · rw [ht, State.isRaised_settle_of_ne _ hdone, State.isRaised_flushAtClose _ _ _ hdone, hnotice]
  · rw [hwalker]
    exact hgone
  · rw [hwalker]
    exact hidle
  · rw [ht, ← hv]
    exact State.isDirty_settle_of_isDirty (State.isDirty_flushAtClose_of_isDirty (State.isDirty_handedBack ..) i _)
  · rw [hwalker, hself, Walker.handedBack, hlast]
    exact ⟨rfl, rfl, rfl, rfl, rfl⟩
  · rw [hwalker, hself, Walker.handedBack, if_pos hlast]
    refine ⟨rfl, rfl, rfl, ?_⟩
    rw [ht, State.isRaised_settle_of_ne _ (by simp), State.isRaised_flushAtClose _ _ _ (by simp), hchainEnd hlast]
  · exact hends (State.flushAtClose_of_done (hcount.trans hzero) _)
  · exact hends (by rw [hlast]; exact State.flushAtClose_of_ended (hcount.trans hn))
  · obtain ⟨hflush, hquiet⟩ := hgoes (by rw [hlast]; exact State.flushAtClose_of_goes (hcount.trans hn))
    exact ⟨hflush.trans hn, hquiet⟩
  · exact (hgoes (State.flushAtClose_of_none (hcount.trans hnone) _)).2 hsettled

/-- R115, R109: ERROR in CLOSING. -/
theorem status_error_closing {s : State} {i : StreamId} {c : DescriptorCopy} (hstate : (s.walker i).state = .closing)
    (hcopy : (s.walker i).copy = some c) {t : State} (ht : t = (s.popIssued.takeStatus i .error).settle) :
    ((t.walker i).state = .faulted ∧ (t.walker i).copy = none ∧ (t.walker i).current = (s.walker i).current ∧
      (t.walker i).fillOffset = (s.walker i).fillOffset ∧ t.isRaised .chainFault = true ∧
      t.isRaised i.bufferNotice = s.isRaised i.bufferNotice ∧
      t.eventStream = s.eventStream.afterOffer .event s.time.tick
        (.chainFault i .statusError (s.walker i).current s.time.tick) ∧
      ((s.walker i).flushCount.isSome = true → (t.walker i).flushCount = none ∧ CommandCompletes s t i 9)) ∧
      t.captureStream = s.captureStream := by
  rw [State.takeStatus_popIssued_of_closing hstate hcopy] at ht
  replace ht : t = ((s.statusTaken i).enterFaulted i .statusError).settle := ht
  have hself : (s.statusTaken i).walker i = { s.walker i with inFlight := none } := by
    rw [State.walker_statusTaken, if_pos rfl]
  obtain ⟨hdone, hfault, hloss, -⟩ := i.bufferNotice_ne
  refine ⟨?_, ?_⟩
  · rw [ht, State.walker_settle_enterFaulted, hself]
    refine ⟨rfl, rfl, rfl, rfl, State.isRaised_settle_enterFaulted .., ?_, ?_, fun hflush => ⟨rfl, ?_⟩⟩
    · rw [State.isRaised_settle_of_ne _ hdone, State.isRaised_enterFaulted _ _ _ hdone, State.isRaised_statusTaken,
        decide_eq_false hfault, decide_eq_false hloss]
      simp
    · have htick : (s.statusTaken i).time = s.time := by simp [State.statusTaken]
      have hevent : (s.statusTaken i).eventStream = s.eventStream := s.stream_statusTaken i .event
      rw [State.eventStream_settle, State.eventStream_enterFaulted, hself, htick, hevent]
    · exact (commandCompletes_enterFaulted (s.command_statusTaken i) (by rw [hself]; exact hflush) .statusError).settle
  · rw [ht, State.captureStream_settle, State.captureStream_enterFaulted]
    exact s.stream_statusTaken i .capture

/-- The state that an abort's status write answer completes in: the error flag takes an ERROR, and an OKAY hands the buffer
back. -/
def State.abortWritten (s : State) (i : StreamId) : RespCode → State
  | .okay => (s.statusTaken i).bufferClosed i
  | .error => (s.statusTaken i).setWalker i { s.walker i with inFlight := none, abortError := true }

theorem State.takeStatus_popIssued_of_aborting_eq {s : State} {i : StreamId} (h : (s.walker i).state = .aborting)
    (code : RespCode) : s.popIssued.takeStatus i code = (s.abortWritten i code).completeAbort i := by
  rw [State.takeStatus_popIssued_of_aborting h]
  cases code with
  | okay => rfl
  | error =>
    simp only [State.abortCloseCompleted, State.walker_statusTaken, if_true]
    rfl

theorem State.abortWritten_parts (s : State) (i : StreamId) (code : RespCode) :
    ((s.abortWritten i code).walker i).abortError = ((s.walker i).abortError || decide (code = .error)) ∧
      ((s.abortWritten i code).walker i).state = (s.walker i).state ∧
      (∀ j, (s.abortWritten i code).stream j = s.stream j) ∧ (s.abortWritten i code).command = s.command ∧
      ∀ m, (s.abortWritten i code).isRaised m =
        (s.isRaised m || (decide (code = .okay) && decide (m = i.bufferNotice))) := by
  have hself : (s.statusTaken i).walker i = { s.walker i with inFlight := none } := by
    rw [State.walker_statusTaken, if_pos rfl]
  cases code with
  | okay =>
    refine ⟨?_, ?_, fun j => ?_, ?_, fun m => ?_⟩
    · simp [State.abortWritten, State.walker_bufferClosed, hself]
    · simp [State.abortWritten, State.walker_bufferClosed, hself]
    · simp [State.abortWritten, State.bufferClosed, State.stream_statusTaken]
    · simp [State.abortWritten, State.command_statusTaken]
    · simp [State.abortWritten, State.isRaised_bufferClosed, State.isRaised_statusTaken]
  | error =>
    refine ⟨?_, ?_, fun j => ?_, ?_, fun m => ?_⟩
    · simp [State.abortWritten]
    · simp [State.abortWritten]
    · simp [State.abortWritten, State.stream_statusTaken]
    · simp [State.abortWritten, State.command_statusTaken]
    · simp [State.abortWritten, State.isRaised_statusTaken]

/-- R94, R114: the completion of an abort moves its walker to IDLE, which dirties its section. -/
theorem State.isDirty_completeAbort {s : State} {i : StreamId} (h : (s.walker i).state ≠ .idle) :
    (s.completeAbort i).isDirty i.reportSection = true := by
  refine State.isDirty_finish_of_isDirty ?_ ..
  rw [State.isDirty_moveWalker, State.walker_countLost, State.walker_setStream, decide_eq_true h.symm]
  simp

/-- Settles O22: by the walker's state and the answer's code. -/
theorem statusWriteHandsTheBufferBack : Obligations.StatusWriteHandsTheBufferBack := by
  intro s i e c howes hin hcopy
  have hrow := exec_statusWriteCompletion_of_owes howes hin
  refine ⟨fun hstate => ⟨_, hrow .okay, ?_⟩, fun hstate => ⟨_, hrow .error, ?_⟩, fun hstate code => ⟨_, hrow code, ?_⟩⟩
  · obtain ⟨⟨hnotice, hgone, hidle, hdirty⟩, ⟨hevent, hcapture⟩, hrest⟩ := status_okay_closing hstate hcopy rfl
    refine ⟨hnotice, hgone, hidle, hdirty, ?_, hrest⟩
    have hframe := State.takeStatus_settle_frame s i .okay
    rwa [hevent, hcapture] at hframe
  · obtain ⟨⟨hfaulted, hgone, hcurrent, hfill, hraised, hnotice, hevent, hflush⟩, hcapture⟩ :=
      status_error_closing hstate hcopy rfl
    refine ⟨hfaulted, hgone, hcurrent, hfill, hraised, hnotice, hevent, hflush, ?_⟩
    have hframe := State.takeStatus_settle_frame s i .error
    rwa [hcapture] at hframe
  · obtain ⟨herror, hstate', hstreams, hcommand, hraised⟩ := s.abortWritten_parts i code
    obtain ⟨hdone, -, -, hloss, hendLoss, hendBuffer, -, hfaultBuffer⟩ := i.bufferNotice_ne
    have hframe := State.takeStatus_settle_frame s i code
    rw [State.takeStatus_popIssued_of_aborting_eq hstate] at hframe ⊢
    refine ⟨?_, ?_, ?_, ?_, hframe⟩
    · have habort := abortCompletes_completeAbort (s := s) hcommand (i := i)
        (by rw [hraised, decide_eq_false hfaultBuffer]; simp) fun j _ => hstreams j
      rwa [hstreams, herror] at habort
    · rw [State.isRaised_settle_of_ne _ hdone, State.isRaised_completeAbort _ _ hdone, hraised, decide_eq_false hloss]
      simp
    · rw [State.isRaised_settle_of_ne _ (by simp), State.isRaised_completeAbort _ _ (by simp), hraised,
        decide_eq_false hendLoss, decide_eq_false hendBuffer]
      simp
    · exact State.isDirty_settle_of_isDirty (State.isDirty_completeAbort (by rw [hstate', hstate]; simp))

end Sys2Proof.Machine
end

section
/-! SUPPORT. The decision point (R28, R29): the queue after a request is taken, and the decisions that change nothing else. -/

namespace Sys2Proof.Machine

theorem exec_decisionPoint_of_wellFormed {r : Request} (h : r.wellFormed = true) (s : State) :
    exec (.decisionPoint r) s = event s.portOpen (State.takeRequest r) s := if_pos h

theorem exec_decisionPoint_of_ready {s : State} {r : Request} (h : r.wellFormed = true) (hready : s.portReady) :
    exec (.decisionPoint r) s = .next (s.takeRequest r).settle := by
  obtain ⟨hlive, hroom⟩ := hready
  rw [exec_decisionPoint_of_wellFormed h]
  exact event_of_enabled (by
    rw [State.portOpen, State.live_of_released hlive, Bool.true_and]
    exact decide_eq_true hroom) _

/-- R28: the entry that a decision puts at the tail. -/
def State.entryOf (s : State) (r : Request) : QueueEntry :=
  { request := r, decision := s.decisionRecord r, state := (s.decisionRecord r).verdict.entryState
    captureLink := s.capturesDecision (s.decisionRecord r), response := none }

theorem State.queue_takeRequest (s : State) (r : Request) :
    (s.takeRequest r).queue = promoteHead (s.queue ++ [s.entryOf r]) := by
  have hqueue : (s.takeRequest r).queue = (s.enqueue r (s.decisionRecord r)).queue := by simp
  exact hqueue

/-- R29: the entry as the event leaves it: the head delivers its denial at once. -/
def State.enteredAs (s : State) (r : Request) : QueueEntry :=
  if s.queue = [] then
    { s.entryOf r with
      state := if (s.entryOf r).state = .denied ∨ (s.entryOf r).state = .held then .delivering else (s.entryOf r).state }
  else s.entryOf r

theorem State.getLast?_takeRequest (s : State) (r : Request) :
    (s.takeRequest r).settle.queue.getLast? = some (s.enteredAs r) := by
  rw [settle_queue, State.queue_takeRequest, State.enteredAs]
  cases hq : s.queue with
  | nil => rw [if_pos rfl, List.nil_append, promoteHead_cons, List.getLast?_singleton]
  | cons h rest =>
    rw [if_neg (by simp), List.cons_append, promoteHead_cons, ← List.cons_append, List.getLast?_concat]

theorem State.dropLast_takeRequest {s : State} (hlaw : s.queueLaw) (r : Request) :
    (s.takeRequest r).settle.queue.dropLast = s.queue := by
  obtain ⟨-, -, hhead, -⟩ := hlaw
  rw [settle_queue, State.queue_takeRequest]
  cases hq : s.queue with
  | nil => rw [List.nil_append, promoteHead_cons, List.dropLast_singleton]
  | cons h rest =>
    have hstays : promoteHead (h :: rest ++ [s.entryOf r]) = h :: rest ++ [s.entryOf r] :=
      promoteHead_of_head _ fun e he => hhead e (by rw [hq]; exact he)
    rw [hstays, List.dropLast_concat]

/-- The parts of the entry that its promotion leaves. -/
theorem State.enteredAs_parts (s : State) (r : Request) :
    (s.enteredAs r).decision = s.decisionRecord r ∧ (s.enteredAs r).response = none ∧
      (s.enteredAs r).captureLink = s.capturesDecision (s.decisionRecord r) := by
  unfold State.enteredAs
  split <;> exact ⟨rfl, rfl, rfl⟩

theorem State.state_enteredAs_of_pass {s : State} {r : Request} {x : Option Eligibility}
    (h : (s.decisionRecord r).verdict = .pass x) : (s.enteredAs r).state = .unsent := by
  have hunsent : (s.entryOf r).state = .unsent := by simp [State.entryOf, h, Verdict.entryState]
  unfold State.enteredAs
  split
  · simp [hunsent]
  · exact hunsent

theorem State.state_enteredAs_of_deny {s : State} {r : Request} {d : DenialTerms}
    (h : (s.decisionRecord r).verdict = .deny d) :
    (s.enteredAs r).state = if s.queue = [] then .delivering else .denied := by
  have hdenied : (s.entryOf r).state = .denied := by simp [State.entryOf, h, Verdict.entryState]
  unfold State.enteredAs
  split
  · simp [hdenied]
  · exact hdenied

theorem State.capturesDecision_of_deny {d : DecisionRecord} {t : DenialTerms} (h : d.verdict = .deny t) (s : State) :
    s.capturesDecision d = false := by
  simp only [State.capturesDecision, h]

/-! ## Decisions the capture unit does not consider (R59, R60) -/

/-- R60: an access is not considered: the capture unit is STOPPED, or ARMED and not triggered by it. -/
def CaptureUnit.ignores (c : CaptureUnit) (entry : Option Nat) : Prop :=
  c.state = .stopped ∨ (c.state = .armed ∧ ¬ (c.trigger.kind = .onEntry ∧ entry = some c.trigger.entry))

theorem CaptureUnit.ignores.not_fires {c : CaptureUnit} {k : Nat} (h : c.ignores (some k)) : ¬ c.firesOnEntry k := by
  rintro ⟨harmed, hkind, hentry⟩
  obtain hstopped | ⟨-, hnot⟩ := h
  · simp [harmed] at hstopped
  · exact hnot ⟨hkind, by rw [hentry]⟩

theorem CaptureUnit.ignores.not_considers {c : CaptureUnit} {entry : Option Nat} (h : c.ignores entry) :
    c.state.considers = false := by
  obtain h | ⟨h, -⟩ := h <;> rw [h] <;> rfl

theorem State.takeEligible_of_ignores {s : State} {k : Nat} (h : s.capture.ignores (some k)) (r : Request)
    (d : DecisionRecord) (e : Eligibility) : s.takeEligible r d e k = s := by
  have hidle := h.not_considers
  simp [State.takeEligible, State.fireOnEntry_of_not_fires h.not_fires, State.consider, hidle]

/-- R60: such a PASS, or one that is not eligible, takes no capture link and changes the queue alone. -/
theorem State.takeRequest_of_ignores {s : State} {r : Request} {x : Option Eligibility}
    (hpass : (s.decisionRecord r).verdict = .pass x)
    (h : x = none ∨ s.capture.ignores (s.decisionRecord r).entry) :
    s.capturesDecision (s.decisionRecord r) = false ∧ s.takeRequest r = s.enqueue r (s.decisionRecord r) := by
  unfold State.takeRequest State.capturesDecision
  simp only [hpass]
  cases x with
  | none => exact ⟨rfl, rfl⟩
  | some e =>
    have hignores : s.capture.ignores (s.decisionRecord r).entry := h.resolve_left (by simp)
    cases hentry : (s.decisionRecord r).entry with
    | none => exact ⟨rfl, rfl⟩
    | some k =>
      rw [hentry] at hignores
      have hidle := hignores.not_considers
      refine ⟨?_, State.takeEligible_of_ignores (s := s.enqueue r (s.decisionRecord r)) hignores _ _ _⟩
      simp [State.fireOnEntry_of_not_fires hignores.not_fires, State.capturesNow, hidle]

/-! ## The policy unit -/

theorem State.accountDenial_policy_frame (s : State) (i : DenialInfo) :
    (s.accountDenial i).policy.active = s.policy.active ∧ (s.accountDenial i).policy.staged = s.policy.staged ∧
      (s.accountDenial i).policy.commitCount = s.policy.commitCount ∧
      (s.accountDenial i).policy.decimation = s.policy.decimation := by
  unfold State.accountDenial State.countDenial
  split <;> simp

theorem State.policy_takeDenial (i : DenialInfo) (t : DenialTerms) (s : State) :
    (s.takeDenial i t).policy = (s.accountDenial i).policy := by
  unfold State.takeDenial inFreeOrder inOrder
  dsimp only
  repeat' split
  all_goals simp

/-- R22: an eligible decision touches its decimation counter alone. -/
theorem State.takeEligible_policy_frame (s : State) (r : Request) (d : DecisionRecord) (e : Eligibility) (k : Nat) :
    (s.takeEligible r d e k).policy.active = s.policy.active ∧
      (s.takeEligible r d e k).policy.staged = s.policy.staged ∧
      (s.takeEligible r d e k).policy.commitCount = s.policy.commitCount := by
  unfold State.takeEligible
  obtain ⟨-, -, h⟩ | ⟨-, -, -, h⟩ | ⟨-, -, -, h⟩ := (s.fireOnEntry k).consider_cases r d e k
  all_goals simp [h]

theorem State.takeRequest_policy_frame (s : State) (r : Request) :
    (s.takeRequest r).policy.active = s.policy.active ∧ (s.takeRequest r).policy.staged = s.policy.staged ∧
      (s.takeRequest r).policy.commitCount = s.policy.commitCount := by
  unfold State.takeRequest
  dsimp only
  split
  · obtain ⟨hactive, hstaged, hcount, -⟩ := (s.enqueue r (s.decisionRecord r)).accountDenial_policy_frame
      (denialInfo r (s.decisionRecord r) _)
    rw [State.policy_takeDenial]
    exact ⟨hactive, hstaged, hcount⟩
  · exact State.takeEligible_policy_frame ..
  · exact ⟨rfl, rfl, rfl⟩
  · exact ⟨rfl, rfl, rfl⟩

/-- Settles O8: the queue takes the request at its tail; a PASS that the capture unit ignores takes nothing else. -/
theorem requestIsTakenOrHeldOff : Obligations.RequestIsTakenOrHeldOff := by
  refine ⟨fun s r hwell hready => ?_, fun s r hwell hlive hfull => ?_⟩
  · obtain ⟨hdecision, hresponse, hlink⟩ := s.enteredAs_parts r
    refine ⟨(s.takeRequest r).settle, s.enteredAs r, exec_decisionPoint_of_ready hwell hready, ?_, s.getLast?_takeRequest r,
      hdecision, hresponse, fun x hpass => ?_, fun d hdeny => ?_, fun x hpass hsettled hignored => ?_,
      fun hlaw => State.dropLast_takeRequest hlaw r, fun hsettled => ?_, ?_, ?_, ?_, ?_⟩
    · rw [settle_queue, State.queue_takeRequest, map_request_promoteHead, List.map_append]
      rfl
    · rw [hdecision] at hpass
      exact State.state_enteredAs_of_pass hpass
    · rw [hdecision] at hdeny
      exact ⟨hlink.trans (State.capturesDecision_of_deny hdeny s), State.state_enteredAs_of_deny hdeny⟩
    · rw [hdecision] at hpass hignored
      obtain ⟨huncaptured, htaken⟩ := State.takeRequest_of_ignores hpass hignored
      refine ⟨hlink.trans huncaptured, ?_⟩
      rw [htaken]
      have hquiet : (s.enqueue r (s.decisionRecord r)).settle = s.enqueue r (s.decisionRecord r) :=
        State.settle_of_frame hsettled rfl rfl rfl rfl rfl rfl
      rw [hquiet]
      rfl
    · have hquiet (i : StreamId) : (s.takeRequest r).flushQuiet i := by
        refine .inr ?_
        rw [State.walker_congr (s := s) (by simp) (by simp) i]
        exact Walker.flushEnds_of_settled ((State.settled_iff s).1 hsettled i)
      rw [(State.settle_quiet hquiet).1]
      simp
    · simp [s.takeRequest_policy_frame r]
    · simp [s.takeRequest_policy_frame r]
    · simp [s.takeRequest_policy_frame r]
    · apply State.eq_of_parts
      all_goals simp
  · rw [exec_decisionPoint_of_wellFormed hwell]
    refine event_of_disabled ?_ _
    rw [State.portOpen, Bool.and_eq_false_iff]
    refine .inr (decide_eq_false ?_)
    show ¬ s.queue.length < 4
    omega

end Sys2Proof.Machine
end

section
/-! SUPPORT. The account of a denial (R42 to R45, R19, R23, R51 to R53, R58): what each of its steps changes, and the two orders of
its records. -/

namespace Sys2Proof.Machine

/-! ## Dirty and raised flags -/

theorem State.isDirty_countLost_of_ne (s : State) (i : StreamId) (k : Nat) {d : Section} (hnotices : d ≠ .notices)
    (hstream : d ≠ i.reportSection) : (s.countLost i k).isDirty d = s.isDirty d := by
  unfold State.countLost
  dsimp only
  split
  · rfl
  · simp [hnotices, hstream]

theorem State.isDirty_offer_of_ne (s : State) (i : StreamId) (r : Record) {d : Section} (hnotices : d ≠ .notices)
    (hstream : d ≠ i.reportSection) : (s.offer i r).isDirty d = s.isDirty d := by
  unfold State.offer
  dsimp only
  split
  · split
    · simp
    · simp [hstream]
  · exact State.isDirty_countLost_of_ne s i 1 hnotices hstream

theorem State.isDirty_changeCapture_of_ne (s : State) (c : CaptureState) {d : Section} (hnotices : d ≠ .notices)
    (hcapture : d ≠ .capture) (hstream : d ≠ StreamId.event.reportSection) : (s.changeCapture c).isDirty d = s.isDirty d := by
  unfold State.changeCapture
  split
  · rfl
  · rw [State.isDirty_offer_of_ne _ _ _ hnotices hstream]
    simp [hnotices, hcapture]

theorem State.isRaised_changeCapture_of_isRaised {s : State} {m : Notice} (h : s.isRaised m = true) (c : CaptureState) :
    (s.changeCapture c).isRaised m = true := by
  unfold State.changeCapture
  split
  · exact h
  · simp [h]

/-! ## The account (R42) -/

theorem getLsbD_stickyMask (k j : DenialKind) : (1#6 <<< j.stickyBit).getLsbD k.stickyBit = decide (k = j) := by
  cases k <;> cases j <;> rfl

/-- R45: the sticky set takes the kind's bit. -/
theorem DenialUnit.sticky_record (u : DenialUnit) (i : DenialInfo) (k : DenialKind) :
    (u.record i).sticky.getLsbD k.stickyBit = (u.sticky.getLsbD k.stickyBit || decide (k = i.kind)) := by
  rw [DenialUnit.record, BitVec.getLsbD_or, getLsbD_stickyMask]

/-- R45: a kind that is in the set leaves it. -/
theorem or_stickyMask_eq_iff (x : BitVec 6) (k : DenialKind) :
    x ||| (1#6 <<< k.stickyBit) = x ↔ x.getLsbD k.stickyBit = true := by
  constructor
  · intro h
    rw [← h, BitVec.getLsbD_or, getLsbD_stickyMask]
    simp
  · intro h
    apply BitVec.eq_of_getLsbD_eq
    intro j hj
    rw [BitVec.getLsbD_or]
    by_cases hjk : j = k.stickyBit
    · rw [hjk, h]
      rfl
    · have hout : (1#6 <<< k.stickyBit).getLsbD j = false := by
        rw [BitVec.getLsbD_shiftLeft]
        by_cases hlt : j < k.stickyBit
        · simp [hlt]
        · have : j - k.stickyBit ≠ 0 := by omega
          simp [this]
      rw [hout, Bool.or_false]

/-- R53: the section's content changes exactly where the latch fills, the flag sets or the kind is new. -/
theorem DenialUnit.record_changes (u : DenialUnit) (i : DenialInfo) :
    ((u.record i).sectionContent != u.sectionContent) =
      decide (u.latch = none ∨ u.more = false ∨ u.sticky.getLsbD i.kind.stickyBit = false) := by
  have hsame : (u.record i).sectionContent = u.sectionContent ↔
      ¬ (u.latch = none ∨ u.more = false ∨ u.sticky.getLsbD i.kind.stickyBit = false) := by
    simp only [DenialUnit.sectionContent, DenialUnit.record, Prod.mk.injEq, or_stickyMask_eq_iff, not_or, Bool.not_eq_false]
    cases u.latch with
    | none => simp
    | some x => simp
  rw [Bool.eq_iff_iff, bne_iff_ne, decide_eq_true_iff, ne_eq, hsame, not_not]

theorem State.denial_accountDenial (s : State) (i : DenialInfo) :
    (s.accountDenial i).denial = { s.denial.record i with
      defaultCount := if denialSlot i.kind i.entry = none then countUp s.denial.defaultCount else s.denial.defaultCount } := by
  unfold State.accountDenial State.countDenial
  cases denialSlot i.kind i.entry <;> simp [State.setDenial, DenialUnit.record]

theorem State.slotCounts_accountDenial (s : State) (i : DenialInfo) :
    (s.accountDenial i).policy.slotCounts = match denialSlot i.kind i.entry with
      | some k => s.policy.slotCounts.setIfInBounds k (countUp (s.policy.slotCounts[k]?.getD 0))
      | none => s.policy.slotCounts := by
  unfold State.accountDenial State.countDenial
  cases denialSlot i.kind i.entry <;> simp

theorem State.isDirty_denial_accountDenial (s : State) (i : DenialInfo) :
    (s.accountDenial i).isDirty .denial = (s.isDirty .denial ||
      decide (s.denial.latch = none ∨ s.denial.more = false ∨ s.denial.sticky.getLsbD i.kind.stickyBit = false)) := by
  have hset : (s.setDenial (s.denial.record i)).isDirty .denial = (s.isDirty .denial ||
      decide (s.denial.latch = none ∨ s.denial.more = false ∨ s.denial.sticky.getLsbD i.kind.stickyBit = false)) := by
    rw [State.setDenial, State.isDirty_markDirtyIf, DenialUnit.record_changes, decide_eq_true (p := Section.denial = .denial) rfl,
      Bool.and_true]
    rfl
  have hcount : ((s.setDenial (s.denial.record i)).countDenial i.kind i.entry).isDirty .denial =
      (s.setDenial (s.denial.record i)).isDirty .denial := State.isDirty_congr (by simp) _
  rw [State.accountDenial, State.isDirty_raise, hcount, hset]
  simp

/-! ## The order of the records (R42, R51, R58) -/

/-- R51, R58: the DENIAL record and the trigger's record, in one order or the other, on the account's state with its free
choices drawn. -/
theorem State.takeDenial_cases (i : DenialInfo) (t : DenialTerms) (s : State) : ∃ n,
    s.takeDenial i t = (((s.accountDenial i).drawn n).reportDenial i t).fireOnDenial ∨
      (t.report = true ∧ s.takeDenial i t = State.reportDenial i t ((s.accountDenial i).drawn n).fireOnDenial) := by
  unfold State.takeDenial inFreeOrder inOrder
  dsimp only
  split
  next hboth =>
    have hreport : t.report = true := (Bool.and_eq_true_iff.1 hboth).1
    split
    · exact ⟨1, .inr ⟨hreport, rfl⟩⟩
    · exact ⟨1, .inl rfl⟩
  · exact ⟨0, .inl rfl⟩

section TwoOffers
variable (i : DenialInfo) (t : DenialTerms) (s : State)

theorem State.eventStream_reportDenial : (State.reportDenial i t s).eventStream =
    if t.report then s.eventStream.afterOffer .event s.time.tick (.denial i t.response) else s.eventStream := by
  unfold State.reportDenial
  split
  · exact State.eventStream_offer ..
  · rfl

theorem State.captureStream_reportDenial : (State.reportDenial i t s).captureStream = s.captureStream := by
  unfold State.reportDenial
  split <;> simp

theorem State.isDirty_reportDenial : (State.reportDenial i t s).isDirty .denial = s.isDirty .denial := by
  unfold State.reportDenial
  split
  · exact State.isDirty_offer_of_ne _ _ _ (by simp) (by simp [StreamId.reportSection])
  · rfl

theorem State.isRaised_reportDenial (m : Notice) : (State.reportDenial i t s).isRaised m =
    (s.isRaised m || (t.report && (decide (m = .eventLoss) && s.eventStream.hasNoRoom .event (.denial i t.response)))) := by
  unfold State.reportDenial
  cases t.report
  · simp
  · exact State.isRaised_offer ..

theorem State.eventStream_fireOnDenial : s.fireOnDenial.eventStream =
    if s.denialTriggers then s.eventStream.afterOffer .event s.time.tick
      (.captureState .armed .running s.capture.groupNumber s.time.tick)
    else s.eventStream := by
  unfold State.fireOnDenial
  split
  next h =>
    have harmed : s.capture.state = .armed := by
      simp only [State.denialTriggers, Bool.and_eq_true, decide_eq_true_eq] at h
      exact h.1
    rw [State.eventStream_changeCapture, harmed, if_neg (by simp)]
  · rfl

theorem State.captureStream_fireOnDenial : s.fireOnDenial.captureStream = s.captureStream := by
  unfold State.fireOnDenial
  split <;> simp

theorem State.isDirty_fireOnDenial : s.fireOnDenial.isDirty .denial = s.isDirty .denial := by
  unfold State.fireOnDenial
  split
  · exact State.isDirty_changeCapture_of_ne _ _ (by simp) (by simp) (by simp [StreamId.reportSection])
  · rfl

theorem State.isRaised_fireOnDenial_of_isRaised {s : State} {m : Notice} (h : s.isRaised m = true) :
    s.fireOnDenial.isRaised m = true := by
  unfold State.fireOnDenial
  split
  · exact State.isRaised_changeCapture_of_isRaised h _
  · exact h

/-- R58, R72: the trigger raises CAPTURE_STATE, and EVENT_LOSS where its record finds no room. -/
theorem State.isRaised_fireOnDenial_of_triggers {s : State} (h : s.denialTriggers = true) :
    s.fireOnDenial.isRaised .captureState = true ∧
      (s.eventStream.hasNoRoom .event (.captureState .armed .running s.capture.groupNumber s.time.tick) = true →
        s.fireOnDenial.isRaised .eventLoss = true) := by
  have harmed : s.capture.state = .armed := by
    simp only [State.denialTriggers, Bool.and_eq_true, decide_eq_true_eq] at h
    exact h.1
  have hne : s.capture.state ≠ .running := by simp [harmed]
  rw [State.fireOnDenial, if_pos h]
  refine ⟨State.isRaised_changeCapture hne, fun hroom => ?_⟩
  rw [State.changeCapture, if_neg hne, State.isRaised_offer, harmed]
  have hstream : (((s.setCapture { s.capture with state := .running }).raise .captureState).markDirty .capture).stream
      .event = s.eventStream := by simp [State.stream]
  rw [hstream, hroom]
  simp [StreamId.lossNotice]

end TwoOffers

/-- Every record takes one place of the event FIFO: whether there is room does not depend on the record. -/
theorem RecordStream.hasNoRoom_event (x : RecordStream) (r r' : Record) : x.hasNoRoom .event r = x.hasNoRoom .event r' := rfl

/-- R42: a denial's state before the judgement: what both orders of its records leave. -/
theorem State.takeDenial_parts (i : DenialInfo) (t : DenialTerms) (s : State) :
    (s.takeDenial i t).denial = (s.accountDenial i).denial ∧
      (s.takeDenial i t).isDirty .denial = (s.accountDenial i).isDirty .denial ∧
      (s.takeDenial i t).isRaised .denial = true ∧ (s.takeDenial i t).captureStream = s.captureStream := by
  have hraised : (s.accountDenial i).isRaised .denial = true := by simp [State.accountDenial]
  obtain ⟨n, h | ⟨-, h⟩⟩ := State.takeDenial_cases i t s
  · rw [h]
    refine ⟨by simp, ?_, State.isRaised_fireOnDenial_of_isRaised ?_, ?_⟩
    · rw [State.isDirty_fireOnDenial, State.isDirty_reportDenial]
      rfl
    · rw [State.isRaised_reportDenial]
      exact Bool.or_eq_true_iff.2 (.inl hraised)
    · rw [State.captureStream_fireOnDenial, State.captureStream_reportDenial]
      simp
  · rw [h]
    refine ⟨by simp, ?_, ?_, ?_⟩
    · rw [State.isDirty_reportDenial, State.isDirty_fireOnDenial]
      rfl
    · rw [State.isRaised_reportDenial]
      exact Bool.or_eq_true_iff.2 (.inl (State.isRaised_fireOnDenial_of_isRaised hraised))
    · rw [State.captureStream_reportDenial, State.captureStream_fireOnDenial]
      simp

theorem State.denialTriggers_iff (s : State) :
    s.denialTriggers = true ↔ s.capture.state = .armed ∧ s.capture.trigger.kind = .onDenial := by
  simp [State.denialTriggers]

/-- R51, R58: the event stream of a denial that does not fire the trigger. -/
theorem State.takeDenial_of_not_triggers {s : State} (h : s.denialTriggers = false) (i : DenialInfo) (t : DenialTerms) :
    (s.takeDenial i t).eventStream =
      if t.report then s.eventStream.afterOffer .event s.time.tick (.denial i t.response) else s.eventStream := by
  have hidle (u : State) (hu : u.capture = s.capture) : u.fireOnDenial = u := by
    have : u.denialTriggers = false := by rw [← h]; simp only [State.denialTriggers, hu]
    rw [State.fireOnDenial, this]
    rfl
  obtain ⟨n, hcase | ⟨-, hcase⟩⟩ := State.takeDenial_cases i t s
  · rw [hcase, hidle _ (by simp), State.eventStream_reportDenial]
    simp
  · rw [hcase, hidle _ (by simp), State.eventStream_reportDenial]
    simp

/-- R51, R58: the event stream of a denial that fires the trigger: the two records in one order or the other. -/
theorem State.takeDenial_of_triggers {s : State} (h : s.denialTriggers = true) (i : DenialInfo) (t : DenialTerms) :
    let denial : Record := .denial i t.response
    let fired : Record := .captureState .armed .running s.capture.groupNumber s.time.tick
    (s.takeDenial i t).isRaised .captureState = true ∧
      (t.report = false → (s.takeDenial i t).eventStream = s.eventStream.afterOffer .event s.time.tick fired) ∧
      (t.report = true →
        (s.takeDenial i t).eventStream =
            (s.eventStream.afterOffer .event s.time.tick denial).afterOffer .event s.time.tick fired ∨
          (s.takeDenial i t).eventStream =
            (s.eventStream.afterOffer .event s.time.tick fired).afterOffer .event s.time.tick denial) := by
  intro denial fired
  have hfires (u : State) (hu : u.capture = s.capture) : u.denialTriggers = true := by
    rw [← h]
    simp only [State.denialTriggers, hu]
  obtain ⟨n, hcase | ⟨hreport, hcase⟩⟩ := State.takeDenial_cases i t s
  · have htriggers := hfires (State.reportDenial i t ((s.accountDenial i).drawn n)) (by simp)
    have hevent : (s.takeDenial i t).eventStream = (State.reportDenial i t ((s.accountDenial i).drawn n)).eventStream.afterOffer
        .event s.time.tick fired := by
      rw [hcase, State.eventStream_fireOnDenial, if_pos htriggers]
      simp [fired]
    refine ⟨?_, fun hsilent => ?_, fun hreport => .inl ?_⟩
    · rw [hcase]
      exact (State.isRaised_fireOnDenial_of_triggers htriggers).1
    · rw [hevent, State.eventStream_reportDenial, hsilent]
      simp
    · rw [hevent, State.eventStream_reportDenial, hreport]
      simp [denial]
  · have htriggers := hfires ((s.accountDenial i).drawn n) (by simp)
    refine ⟨?_, fun hsilent => ?_, fun _ => .inr ?_⟩
    · rw [hcase, State.isRaised_reportDenial]
      exact Bool.or_eq_true_iff.2 (.inl (State.isRaised_fireOnDenial_of_triggers htriggers).1)
    · rw [hsilent] at hreport
      cases hreport
    · rw [hcase, State.eventStream_reportDenial, hreport, State.eventStream_fireOnDenial, if_pos htriggers]
      simp [denial, fired]

/-- R83: a DENIAL record that finds no room raises EVENT_LOSS, by its own offer or by the trigger's record before it. -/
theorem State.takeDenial_loses {s : State} {i : DenialInfo} {t : DenialTerms} (hreport : t.report = true)
    (hroom : s.eventStream.hasNoRoom .event (.denial i t.response) = true) :
    (s.takeDenial i t).isRaised .eventLoss = true := by
  have hstands (n : Nat) : ((s.accountDenial i).drawn n).eventStream = s.eventStream := by simp
  obtain ⟨n, hcase | ⟨-, hcase⟩⟩ := State.takeDenial_cases i t s
  · rw [hcase]
    refine State.isRaised_fireOnDenial_of_isRaised ?_
    rw [State.isRaised_reportDenial, hreport, hstands, hroom]
    simp
  · rw [hcase, State.isRaised_reportDenial]
    cases htriggers : ((s.accountDenial i).drawn n).denialTriggers
    · refine Bool.or_eq_true_iff.2 (.inr ?_)
      rw [State.eventStream_fireOnDenial, htriggers, if_neg (by simp), hstands, hroom, hreport]
      rfl
    · refine Bool.or_eq_true_iff.2 (.inl ((State.isRaised_fireOnDenial_of_triggers htriggers).2 ?_))
      rw [hstands]
      exact hroom

/-! ## The counts (R19, R23) -/

theorem denialSlot_of_slot {k : DenialKind} (h : k = .straddle ∨ k = .permission) (entry : Option Nat) :
    denialSlot k entry = entry := by
  obtain rfl | rfl := h <;> rfl

theorem denialSlot_of_default {k : DenialKind} {entry : Option Nat}
    (h : (k ≠ .straddle ∧ k ≠ .permission) ∨ entry = none) : denialSlot k entry = none := by
  obtain ⟨hstraddle, hpermission⟩ | rfl := h
  · cases k
    case straddle => exact absurd rfl hstraddle
    case permission => exact absurd rfl hpermission
    all_goals rfl
  · cases k <;> rfl

theorem State.takeRequest_of_deny {s : State} {r : Request} {d : DenialTerms} (h : (s.decisionRecord r).verdict = .deny d) :
    s.takeRequest r = (s.enqueue r (s.decisionRecord r)).takeDenial (denialInfo r (s.decisionRecord r) d) d := by
  simp only [State.takeRequest, h]

/-- Settles O9: the account is taken first, and the two records follow in one order or the other. -/
theorem denialTakesItsAccount : Obligations.DenialTakesItsAccount := by
  intro s r d hwell hready hdeny
  refine ⟨(s.takeRequest r).settle, exec_decisionPoint_of_ready hwell hready, ?_⟩
  intro entry info denial fired
  rw [State.takeRequest_of_deny hdeny]
  generalize hv : s.enqueue r (s.decisionRecord r) = v
  have hkeeps : v.denial = s.denial ∧ v.policy = s.policy ∧ v.capture = s.capture ∧ v.eventStream = s.eventStream ∧
      v.captureStream = s.captureStream ∧ v.time = s.time ∧ v.report = s.report := by
    rw [← hv]
    exact ⟨rfl, rfl, rfl, rfl, rfl, rfl, rfl⟩
  obtain ⟨hdenial, hpolicy, hcapture, hevent, hcaptureStream, htime, hreport⟩ := hkeeps
  have hinfo : denialInfo r (s.decisionRecord r) d = info := rfl
  rw [hinfo]
  obtain ⟨hunit, hdirty, hraised, hstream⟩ := State.takeDenial_parts info d v
  have hslot (hdefault : denialSlot d.kind entry = none) : denialSlot info.kind info.entry = none := hdefault
  have haccount : (v.takeDenial info d).settle.denial = (v.accountDenial info).denial := by simpa using hunit
  have hcounts : (v.takeDenial info d).settle.policy = (v.accountDenial info).policy := by
    simpa using State.policy_takeDenial info d v
  have hunit' : (v.takeDenial info d).settle.capture = (v.takeDenial info d).capture := State.capture_settle _
  have hevent' : (v.takeDenial info d).settle.eventStream = (v.takeDenial info d).eventStream := State.eventStream_settle _
  rw [haccount, hcounts, hunit', hevent', State.captureStream_settle, State.denial_accountDenial,
    State.capture_takeDenial, hdenial]
  refine ⟨rfl, rfl, fun k => s.denial.sticky_record info k, ?_, ?_, fun k hkind hentry => ?_, fun hdefault => ?_,
    fun hidle => ?_, fun htriggers => ?_, fun hreports hroom => ?_, hstream.trans hcaptureStream, ?_⟩
  · rw [State.isDirty_settle_of_ne _ (by simp) (by simp) (by rintro (_ | _) <;> simp [StreamId.reportSection]), hdirty,
      State.isDirty_denial_accountDenial, hdenial, State.isDirty_congr hreport]
  · exact State.isRaised_settle_of_isRaised hraised
  · have hk : denialSlot info.kind info.entry = some k := (denialSlot_of_slot hkind entry).trans hentry
    rw [State.slotCounts_accountDenial, hk, hpolicy]
    refine ⟨rfl, fun j n hn => ?_⟩
    rw [Vector.getElem?_setIfInBounds]
    by_cases hj : k = j
    · have hlt : j < 32 := by
        by_contra hge
        rw [Vector.getElem?_eq_none (by omega)] at hn
        cases hn
      subst hj
      rw [if_pos rfl, if_pos hlt, if_pos rfl, hn]
      rfl
    · rw [if_neg hj, if_neg (Ne.symm hj), hn]
  · have hnone := hslot (denialSlot_of_default hdefault)
    rw [State.slotCounts_accountDenial, hnone, hpolicy]
    exact ⟨rfl, rfl⟩
  · have hquiet : v.denialTriggers = false := by
      rw [← Bool.not_eq_true, State.denialTriggers_iff, hcapture]
      exact hidle
    rw [hquiet, State.takeDenial_of_not_triggers hquiet, hcapture, hevent, htime]
    exact ⟨rfl, rfl⟩
  · have hfires : v.denialTriggers = true := by
      rw [State.denialTriggers_iff, hcapture]
      exact htriggers
    obtain ⟨hstate, hsilent, hboth⟩ := State.takeDenial_of_triggers hfires info d
    rw [hcapture, hevent, htime] at hsilent hboth
    rw [if_pos hfires, hcapture]
    exact ⟨rfl, State.isRaised_settle_of_isRaised hstate, hsilent, hboth⟩
  · exact State.isRaised_settle_of_isRaised (State.takeDenial_loses hreports (by rw [hevent]; exact hroom))
  · obtain ⟨-, -, -, hdecimation⟩ := v.accountDenial_policy_frame info
    rw [hdecimation, hpolicy]

end Sys2Proof.Machine
end

section
/-! SUPPORT. Considered accesses (R22, R59 to R65, R72): the trigger, the decimation counter, the skip, the capture and its close by
LIMIT. -/

namespace Sys2Proof.Machine

/-! ## Notices through the capture unit's steps -/

theorem State.isRaised_offerDue_of_isRaised {m : Notice} (gs : List ClosedGroup) {s : State} (h : s.isRaised m = true) :
    (s.offerDue gs).isRaised m = true := by
  induction gs generalizing s with
  | nil => simpa [State.offerDue] using h
  | cons g gs ih =>
    simp only [State.offerDue]
    split
    · simpa using h
    · exact ih (by simp [h])

theorem State.isRaised_closeGroup_of_isRaised {s : State} {m : Notice} (h : s.isRaised m = true) (reason : GroupReason) :
    (s.closeGroup reason).isRaised m = true := by
  cases hopen : s.capture.openGroup with
  | none => rwa [State.closeGroup_of_none hopen]
  | some g =>
    rw [State.closeGroup_of_some hopen]
    refine State.isRaised_changeCapture_of_isRaised ?_ _
    exact State.isRaised_offerDue_of_isRaised _ (by simpa using h)

/-! ## The trigger (R59) -/

/-- R59, R60: the access is considered: in RUNNING or STOPPING, or in ARMED where it fires the trigger. -/
def CaptureUnit.takes (c : CaptureUnit) (k : Nat) : Prop :=
  c.state = .running ∨ c.state = .stopping ∨ (c.state = .armed ∧ c.trigger.kind = .onEntry ∧ c.trigger.entry = k)

/-- The capture state in which it is considered. -/
def CaptureUnit.considering (c : CaptureUnit) : CaptureState := if c.state = .armed then .running else c.state

theorem CaptureUnit.takes.considering_cases {c : CaptureUnit} {k : Nat} (h : c.takes k) :
    c.considering = .running ∨ c.considering = .stopping := by
  unfold CaptureUnit.considering
  obtain h | h | ⟨h, -⟩ := h <;> simp [h]

theorem CaptureUnit.takes.fires_iff {c : CaptureUnit} {k : Nat} (h : c.takes k) : c.firesOnEntry k ↔ c.state = .armed := by
  refine ⟨And.left, fun harmed => ?_⟩
  obtain h | h | h := h
  · simp [h] at harmed
  · simp [h] at harmed
  · exact h

/-- R59, R72: the state that the trigger leaves to the consideration. -/
theorem State.fireOnEntry_of_takes {s : State} {k : Nat} (h : s.capture.takes k) :
    (s.fireOnEntry k).capture = { s.capture with state := s.capture.considering } ∧
      (s.fireOnEntry k).eventStream = (if s.capture.state = .armed then
        s.eventStream.afterOffer .event s.time.tick (.captureState .armed .running s.capture.groupNumber s.time.tick)
      else s.eventStream) ∧
      (s.fireOnEntry k).captureStream = s.captureStream ∧
      (s.capture.state = .armed → (s.fireOnEntry k).isRaised .captureState = true) := by
  by_cases harmed : s.capture.state = .armed
  · rw [State.fireOnEntry_of_fires (h.fires_iff.2 harmed), if_pos harmed, CaptureUnit.considering, if_pos harmed]
    refine ⟨by simp, ?_, by simp, fun _ => State.isRaised_changeCapture (by simp [harmed])⟩
    rw [State.eventStream_changeCapture, harmed, if_neg (by simp)]
  · rw [State.fireOnEntry_of_not_fires (fun hf => harmed (h.fires_iff.1 hf)), if_neg harmed, CaptureUnit.considering,
      if_neg harmed]
    exact ⟨rfl, rfl, rfl, fun ha => absurd ha harmed⟩

/-! ## The row -/

theorem State.takeRequest_of_eligible {s : State} {r : Request} {x : Eligibility} {k : Nat}
    (h : s.policy.active.judge s.currentBuffers r = (.pass (some x), some k)) :
    s.takeRequest r = (((s.enqueue r (s.decisionRecord r)).fireOnEntry k).consider r (s.decisionRecord r) x k) := by
  have hverdict : (s.decisionRecord r).verdict = .pass (some x) := congrArg Prod.fst h
  have hentry : (s.decisionRecord r).entry = some k := congrArg Prod.snd h
  simp only [State.takeRequest, hverdict, hentry]
  rfl

theorem State.capturesDecision_of_eligible {s : State} {r : Request} {x : Eligibility} {k : Nat}
    (h : s.policy.active.judge s.currentBuffers r = (.pass (some x), some k)) :
    s.capturesDecision (s.decisionRecord r) = (s.fireOnEntry k).capturesNow k := by
  have hverdict : (s.decisionRecord r).verdict = .pass (some x) := congrArg Prod.fst h
  have hentry : (s.decisionRecord r).entry = some k := congrArg Prod.snd h
  simp only [State.capturesDecision, hverdict, hentry]

theorem State.captureLink_takeRequest (s : State) (r : Request) :
    (s.takeRequest r).settle.queue.getLast?.map (·.captureLink) = some (s.capturesDecision (s.decisionRecord r)) := by
  obtain ⟨-, -, hlink⟩ := s.enteredAs_parts r
  rw [State.getLast?_takeRequest, Option.map_some, hlink]

theorem State.counter_of_getElem? {s : State} {k c : Nat} (h : s.policy.decimation[k]? = some c) : s.counter k = c := by
  rw [State.counter, h]
  rfl

theorem lt_of_decimation_eq_some {v : Vector Nat 32} {k c : Nat} (h : v[k]? = some c) : k < 32 := by
  by_contra hge
  rw [Vector.getElem?_eq_none (by omega)] at h
  cases h

theorem State.decimation_setCounter (s : State) {k : Nat} (hk : k < 32) (n : Nat) :
    (s.setCounter k n).policy.decimation[k]? = some n ∧
      ∀ j, j ≠ k → (s.setCounter k n).policy.decimation[j]? = s.policy.decimation[j]? := by
  rw [State.setCounter_policy]
  refine ⟨?_, fun j hj => ?_⟩
  · rw [Vector.getElem?_setIfInBounds, if_pos rfl, if_pos hk]
  · rw [Vector.getElem?_setIfInBounds, if_neg (Ne.symm hj)]

/-! ## The skip (R60) and the capture (R61 to R65) -/

theorem firstWriteBeat_eq (r : Request) (f : CaptureFormat) : firstWriteBeat r f =
    if f = .full ∧ r.kind = .write then r.writeData.head?.map (·.data) else none := by
  unfold firstWriteBeat
  cases f <;> cases r.kind <;> rfl

/-- R64: the state after a close by LIMIT, from a state in which accesses are considered. -/
theorem closedState_limit {c : CaptureState} (h : c = .running ∨ c = .stopping) (oneShot : Bool) :
    closedState c .limit oneShot = if c = .running ∧ oneShot = false then .running else .stopped := by
  obtain rfl | rfl := h
  · cases oneShot <;> rfl
  · rfl

section Captured
variable {u : State} {r : Request} {d : DecisionRecord} {x : Eligibility} {k : Nat}

/-- R61: a capture that does not reach the limit. -/
theorem State.captureAccess_of_open (h : ¬ (u.capture.trigger.limit ≠ 0 ∧
      groupCount u.capture.groupForCapture.produced 1 = u.capture.trigger.limit)) :
    (u.captureAccess r d x k).capture = u.capture.capturing (u.capture.pendingEntry r d x k) ∧
      (u.captureAccess r d x k).captureStream = u.captureStream ∧ (u.captureAccess r d x k).eventStream = u.eventStream ∧
      ∀ m, u.isRaised m = true → (u.captureAccess r d x k).isRaised m = true := by
  obtain ⟨b, hb⟩ := u.captureAccess_eq r d x k
  rw [hb, if_neg h]
  exact ⟨by simp, by simp, by simp, fun m hm => by simpa using hm⟩

/-- R61, R64, R70: a capture that reaches the limit closes its group. -/
theorem State.captureAccess_of_limit (h : u.capture.trigger.limit ≠ 0 ∧
      groupCount u.capture.groupForCapture.produced 1 = u.capture.trigger.limit) :
    let p := u.capture.pendingEntry r d x k
    let g : OpenGroup := { u.capture.groupForCapture with produced := groupCount u.capture.groupForCapture.produced 1 }
    let last := closedState u.capture.state .limit u.capture.trigger.oneShot
    (u.captureAccess r d x k).capture = (u.capture.capturing p).closed g .limit u.time.tick ∧
      (u.captureAccess r d x k).captureStream = u.captureStream.afterGroupEnds u.time.tick (u.capture.pendingList ++ [p])
        (u.capture.owed ++ [g.close .limit u.time.tick]) ∧
      (u.captureAccess r d x k).eventStream = (if last = u.capture.state then u.eventStream
        else u.eventStream.afterOffer .event u.time.tick
          (.captureState u.capture.state last (u.capture.groupNumber + 1) u.time.tick)) ∧
      (last ≠ u.capture.state → (u.captureAccess r d x k).isRaised .captureState = true) ∧
      ∀ m, u.isRaised m = true → (u.captureAccess r d x k).isRaised m = true := by
  intro p g last
  obtain ⟨b, hb⟩ := u.captureAccess_eq r d x k
  rw [hb, if_pos h]
  generalize hw : (u.setCapture (u.capture.capturing (u.capture.pendingEntry r d x k))).markDirtyIf b .capture = w
  have hcapture : w.capture = u.capture.capturing p := by simp [← hw, p]
  have hopen : w.capture.openGroup = some g := by rw [hcapture]; rfl
  have htime : w.time = u.time := by simp [← hw]
  have hcaptureStream : w.captureStream = u.captureStream := by simp [← hw]
  have heventStream : w.eventStream = u.eventStream := by simp [← hw]
  refine ⟨?_, ?_, ?_, fun hlast => ?_, fun m hm => ?_⟩
  · rw [State.capture_closeGroup hopen, hcapture, htime]
  · rw [State.captureStream_closeGroup hopen, hcapture, htime, hcaptureStream]
    rfl
  · rw [State.eventStream_closeGroup hopen, hcapture, htime, heventStream]
    rfl
  · exact State.isRaised_closeGroup hopen .limit (by rw [hcapture]; exact hlast)
  · refine State.isRaised_closeGroup_of_isRaised ?_ _
    rw [← hw]
    simpa using hm

end Captured

/-! ## The consideration of a request -/

/-- The state in which the capture unit considers the request: it is enqueued, and the trigger has fired where it does. -/
def State.considered (s : State) (r : Request) (k : Nat) : State := (s.enqueue r (s.decisionRecord r)).fireOnEntry k

theorem State.considered_frame (s : State) (r : Request) (k : Nat) :
    (s.considered r k).policy = s.policy ∧ (s.considered r k).denial = s.denial ∧ (s.considered r k).time = s.time := by
  simp [State.considered, State.enqueue]

section Considered
variable {s : State} {r : Request} {x : Eligibility} {k c : Nat} (h : s.capture.takes k)
include h

theorem State.considered_of_takes :
    (s.considered r k).capture = { s.capture with state := s.capture.considering } ∧
      (s.considered r k).eventStream = (if s.capture.state = .armed then
        s.eventStream.afterOffer .event s.time.tick (.captureState .armed .running s.capture.groupNumber s.time.tick)
      else s.eventStream) ∧
      (s.considered r k).captureStream = s.captureStream ∧
      (s.capture.state = .armed → (s.considered r k).isRaised .captureState = true) :=
  State.fireOnEntry_of_takes (s := s.enqueue r (s.decisionRecord r)) h

theorem State.considers_considered : (s.considered r k).capture.state.considers = true := by
  obtain ⟨hcapture, -⟩ := State.considered_of_takes (r := r) h
  rw [hcapture]
  show s.capture.considering.considers = true
  obtain hnow | hnow := h.considering_cases <;> rw [hnow] <;> rfl

/-- R60: whether the request is captured, by its counter. -/
theorem State.capturesNow_of_takes (hc : s.policy.decimation[k]? = some c) :
    (s.fireOnEntry k).capturesNow k = decide (c - 1 = 0) := by
  obtain ⟨hcapture, -⟩ := State.fireOnEntry_of_takes h
  have hcounter : (s.fireOnEntry k).counter k = c := State.counter_of_getElem? (by simpa using hc)
  rw [State.capturesNow, hcapture, hcounter]
  show (s.capture.considering.considers && _) = _
  obtain hnow | hnow := h.considering_cases <;> rw [hnow] <;> rfl

theorem State.consider_of_skip (hc : s.policy.decimation[k]? = some c) (hskip : 1 < c) (d : DecisionRecord) :
    (s.considered r k).consider r d x k = ((s.considered r k).setCounter k (c - 1)).countSkip := by
  have hcounter : (s.considered r k).counter k = c :=
    State.counter_of_getElem? (by rw [(s.considered_frame r k).1]; exact hc)
  have hne : c - 1 ≠ 0 := by omega
  simp [State.consider, State.considers_considered h, hcounter, hne]

theorem State.consider_of_capture (hc : s.policy.decimation[k]? = some 1) (d : DecisionRecord) :
    (s.considered r k).consider r d x k = ((s.considered r k).setCounter k x.factor).captureAccess r d x k := by
  have hcounter : (s.considered r k).counter k = 1 :=
    State.counter_of_getElem? (by rw [(s.considered_frame r k).1]; exact hc)
  simp [State.consider, State.considers_considered h, hcounter]

end Considered

/-- R63, R72: the entry that a capture appends is of the open group, or of the next one, whatever the unit's state. -/
theorem CaptureUnit.pendingEntry_with_state (u : CaptureUnit) (now : CaptureState) (r : Request) (d : DecisionRecord)
    (x : Eligibility) (k : Nat) : CaptureUnit.pendingEntry { u with state := now } r d x k =
      { group := (u.openGroup.getD { number := u.groupNumber, produced := 0, lost := 0, skips := 0 }).number
        format := x.format, entry := k, timestamp := d.timestamp, address := r.address, access := r.kind
        privilege := r.privilege, master := r.master, beats := r.beats
        firstBeat := if x.format = .full ∧ r.kind = .write then r.writeData.head?.map (·.data) else none
        voided := false } := by
  rw [CaptureUnit.pendingEntry, pendingOf, firstWriteBeat_eq]
  rfl

/-- R59, R60: what a skipped and a captured request have in common: its counter alone changes, and the trigger's notice
stays. -/
theorem State.consider_keeps {s u : State} {r : Request} {k n : Nat} (h : s.capture.takes k) (hk : k < 32)
    (hpolicy : u.policy = ((s.considered r k).setCounter k n).policy) (hdenial : u.denial = s.denial)
    (hraised : ∀ m, (s.considered r k).isRaised m = true → u.isRaised m = true) :
    (s.capture.state = .armed → u.settle.isRaised .captureState = true) ∧
      (∀ j, j ≠ k → u.settle.policy.decimation[j]? = s.policy.decimation[j]?) ∧
      u.settle.policy.slotCounts = s.policy.slotCounts ∧ u.settle.denial = s.denial ∧
      u.settle.policy.decimation[k]? = some n := by
  obtain ⟨-, -, -, hfired⟩ := State.considered_of_takes (r := r) h
  obtain ⟨hkept, -⟩ := s.considered_frame r k
  obtain ⟨hself, hother⟩ := (s.considered r k).decimation_setCounter hk n
  have hsettled : u.settle.policy = ((s.considered r k).setCounter k n).policy := by simpa using hpolicy
  rw [hsettled]
  refine ⟨fun harmed => State.isRaised_settle_of_isRaised (hraised _ (hfired harmed)), fun j hj => ?_, ?_, by simpa using hdenial,
    hself⟩
  · rw [hother j hj, hkept]
  · rw [State.setCounter_policy, hkept]

/-- Settles O10: the trigger first, then the counter: a skip above 1, and at 1 a capture, whose close by LIMIT follows. -/
theorem consideredAccessIsSkippedOrCaptured : Obligations.ConsideredAccessIsSkippedOrCaptured := by
  intro s r x k c hwell hready hjudge htakes hc _
  have hk := lt_of_decimation_eq_some hc
  obtain ⟨hcapture, hevent, hcaptureStream, -⟩ := State.considered_of_takes (r := r) htakes
  obtain ⟨-, hdenial, htime⟩ := s.considered_frame r k
  have hlink : (s.takeRequest r).settle.queue.getLast?.map (·.captureLink) = some (decide (c - 1 = 0)) := by
    rw [State.captureLink_takeRequest, State.capturesDecision_of_eligible hjudge, State.capturesNow_of_takes htakes hc]
  have hrow := exec_decisionPoint_of_ready hwell hready
  rw [State.takeRequest_of_eligible hjudge] at hrow hlink
  change exec (.decisionPoint r) s = .next ((s.considered r k).consider r (s.decisionRecord r) x k).settle at hrow
  change ((s.considered r k).consider r (s.decisionRecord r) x k).settle.queue.getLast?.map (·.captureLink) = _ at hlink
  refine ⟨_, hrow, ?_⟩
  intro now events
  have hnow : s.capture.considering = now := rfl
  rw [hnow] at hcapture
  by_cases hskip : 1 < c
  case pos =>
    rw [State.consider_of_skip htakes hc hskip] at hlink ⊢
    obtain ⟨hfired, hothers, hslots, hunit, hcount⟩ := State.consider_keeps
      (u := ((s.considered r k).setCounter k (c - 1)).countSkip) (r := r) (n := c - 1) htakes hk (by simp) (by simpa using hdenial)
      fun m hm => by rw [State.isRaised_congr (s := s.considered r k) (by simp)]; exact hm
    refine ⟨hfired, hothers, hslots, hunit, fun _ => ⟨hcount, ?_, ?_, ?_, ?_⟩, fun hone => absurd hone (by omega)⟩
    · simpa using hcaptureStream
    · simpa using hevent
    · rw [hlink, decide_eq_false (by omega)]
    · rw [State.capture_settle, State.capture_countSkip, State.setCounter_capture, hcapture]
      rfl
  case neg =>
    obtain rfl : c = 1 := by omega
    rw [State.consider_of_capture htakes hc] at hlink ⊢
    generalize hw : (s.considered r k).setCounter k x.factor = w at hlink ⊢
    have hwcapture : w.capture = { s.capture with state := now } := by rw [← hw, State.setCounter_capture, hcapture]
    have hwtime : w.time = s.time := by rw [← hw, State.setCounter_time, htime]
    have hwevent : w.eventStream = events := by rw [← hw, State.setCounter_eventStream, hevent]
    have hwstream : w.captureStream = s.captureStream := by rw [← hw, State.setCounter_captureStream, hcaptureStream]
    have hwraised (m : Notice) (hm : (s.considered r k).isRaised m = true) : w.isRaised m = true := by
      rw [← hw]
      exact hm
    have hpending := s.capture.pendingEntry_with_state now r (s.decisionRecord r) x k
    rw [← hwcapture] at hpending
    by_cases hlimit : w.capture.trigger.limit ≠ 0 ∧
      groupCount w.capture.groupForCapture.produced 1 = w.capture.trigger.limit
    case neg =>
      obtain ⟨hunit, hstream, hevents, hraised⟩ :=
        State.captureAccess_of_open (r := r) (d := s.decisionRecord r) (x := x) (k := k) hlimit
      obtain ⟨hfired, hothers, hslots, hdenials, hcount⟩ := State.consider_keeps
        (u := w.captureAccess r (s.decisionRecord r) x k) (r := r) (n := x.factor) htakes hk (by rw [hw]; simp) (by simpa [← hw] using hdenial)
        fun m hm => hraised m (hwraised m hm)
      refine ⟨hfired, hothers, hslots, hdenials, fun hone => absurd hone (by omega), fun _ => ?_⟩
      intro g g1 pending
      rw [hwcapture] at hlimit
      refine ⟨hcount, hlink, fun _ => ⟨?_, ?_, ?_⟩, fun hreached => absurd hreached hlimit⟩
      · rw [State.captureStream_settle, hstream, hwstream]
      · rw [State.eventStream_settle, hevents, hwevent]
      · rw [State.capture_settle, hunit, hpending, hwcapture]
        rfl
    case pos =>
      obtain ⟨hunit, hstream, hevents, hchanged, hraised⟩ :=
        State.captureAccess_of_limit (r := r) (d := s.decisionRecord r) (x := x) (k := k) hlimit
      obtain ⟨hfired, hothers, hslots, hdenials, hcount⟩ := State.consider_keeps
        (u := w.captureAccess r (s.decisionRecord r) x k) (r := r) (n := x.factor) htakes hk (by rw [hw]; simp) (by simpa [← hw] using hdenial)
        fun m hm => hraised m (hwraised m hm)
      refine ⟨hfired, hothers, hslots, hdenials, fun hone => absurd hone (by omega), fun _ => ?_⟩
      intro g g1 pending
      rw [hwcapture] at hlimit
      refine ⟨hcount, hlink, fun hopen => absurd hlimit hopen, fun _ => ?_⟩
      intro owed last
      have hlast : closedState now .limit s.capture.trigger.oneShot = last := closedState_limit (CaptureUnit.takes.considering_cases htakes) _
      rw [hpending, hwcapture, hwtime] at hunit hstream
      rw [hwcapture, hwtime, hwevent] at hevents
      rw [hwcapture] at hchanged
      rw [hwstream] at hstream
      refine ⟨?_, (State.captureStream_settle _).trans hstream, ?_, fun hne => State.isRaised_settle_of_isRaised (hchanged ?_)⟩
      · rw [State.capture_settle, hunit, ← hlast]
        rfl
      · rw [State.eventStream_settle, hevents]
        show (if closedState now .limit s.capture.trigger.oneShot = now then _ else _) = _
        rw [hlast]
      · show closedState now .limit s.capture.trigger.oneShot ≠ now
        rw [hlast]
        exact hne

end Sys2Proof.Machine
end

section
/-! SUPPORT. Memory's answer to a forwarded transaction (R31, R34 to R36, R66, R69, R70, R105, R131, R133): the queue, the account,
the capture unit's steps, the watchers. -/

namespace Sys2Proof.Machine

/-! ## The row and the queue -/

theorem exec_passMemoryCompletion_of_owes {s : State} {e : IssueEntry} {q : QueueEntry} {ans : MemResponse}
    (h : s.owesAnswerTo .pass e) (hq : s.queue.find? QueueEntry.isAtMemory = some q)
    (hdata : e.isWrite = false → ans.data.length = e.beats) :
    exec (.passMemoryCompletion ans) s = .next (s.completePass q ans).settle := by
  have hanswering : s.passAnswering = some (e, q) := by
    simp [State.passAnswering, State.answering_of_owes h, h.requester, hq]
  have hwhole : e.whole ans = true := by
    cases hwrite : e.isWrite
    · simp [IssueEntry.whole, hdata hwrite]
    · simp [IssueEntry.whole, hwrite]
  dsimp only [exec, execPassMemoryCompletion]
  rw [hanswering]
  dsimp only
  rw [if_pos hwhole]
  exact event_of_enabled h.live _

/-- The oldest AT_MEMORY entry of a queue that is cut before it. -/
theorem find?_isAtMemory_of_split {before after : List QueueEntry} {q : QueueEntry}
    (hbefore : ∀ x ∈ before, x.state ≠ .atMemory) (hq : q.state = .atMemory) :
    (before ++ q :: after).find? QueueEntry.isAtMemory = some q := by
  have hnone : before.find? QueueEntry.isAtMemory = none :=
    List.find?_eq_none.2 fun x hx => by simpa [QueueEntry.isAtMemory] using hbefore x hx
  rw [List.find?_append, hnone, Option.none_or]
  exact List.find?_cons_of_pos (by simp [QueueEntry.isAtMemory, hq])

theorem storedResponse_eq (k : AccessKind) (ans : MemResponse) :
    storedResponse k ans = { code := ans.code, data := if k = .write then [] else ans.data } := by
  cases k <;> rfl

/-- R31: the response is stored with its transaction, which delivers where it is the head. -/
theorem State.queue_completePass {s : State} {before after : List QueueEntry} {q : QueueEntry} (hlaw : s.queueLaw)
    (hqueue : s.queue = before ++ q :: after) (hbefore : ∀ x ∈ before, x.state ≠ .atMemory) (hq : q.state = .atMemory)
    (q' : QueueEntry) (ans : MemResponse) :
    (s.completePass q' ans).settle.queue = before ++ { q with
      state := if before = [] then .delivering else .held
      response := some { code := ans.code, data := if q.request.kind = .write then [] else ans.data } } :: after := by
  obtain ⟨-, -, hhead, -⟩ := hlaw
  have hmiss : ∀ y ∈ before, QueueEntry.isAtMemory y = false := fun y hy => by
    simpa [QueueEntry.isAtMemory] using hbefore y hy
  have hstored : (s.completePass q' ans).queue = (s.storeResponse ans).queue := by simp
  rw [settle_queue, hstored, State.storeResponse_queue, hqueue,
    updateFirst_split _ _ _ _ _ hmiss (by simp [QueueEntry.isAtMemory, hq]), storedResponse_eq]
  cases before with
  | nil => simp [promoteHead_cons]
  | cons x xs =>
    rw [if_neg (List.cons_ne_nil x xs)]
    exact promoteHead_of_head _ fun y hy => hhead y (by rw [hqueue]; exact hy)

/-! ## The account of a delivery -/

/-- No command changes what the issue list holds but by voiding its entries, nor the tick, the count or the shadow. -/
theorem CommandEffect.account {n : BitVec 8} {s u : State} (h : CommandEffect n s u) :
    u.arbiter.issued.length = s.arbiter.issued.length ∧ u.arbiter.drain = s.arbiter.drain ∧
      u.time.tick = s.time.tick ∧ u.command.count = s.command.count := by
  cases h with
  | setTiming x hx => exact ⟨by simp, by simp, by simpa using hx, by simp⟩
  | recordReset => simp [State.arbiter_resetRecording]
  | loadPolicy _ => exact ⟨by simp, by simp, by simp, rfl⟩
  | _ => simp

theorem State.deliver_account (s : State) (code : BitVec 8) (p : Privilege) (c : Option Command) :
    (s.deliver code p c).arbiter.issued.length = s.arbiter.issued.length ∧
      (s.deliver code p c).arbiter.drain = s.arbiter.drain ∧ (s.deliver code p c).time.tick = s.time.tick ∧
      (s.deliver code p c).command.count = s.command.count + 1 := by
  refine s.deliver_keeps code p c (P := fun u => u.arbiter.issued.length = s.arbiter.issued.length ∧
    u.arbiter.drain = s.arbiter.drain ∧ u.time.tick = s.time.tick ∧ u.command.count = s.command.count + 1) (fun r => ?_)
    (fun n u _ h => ?_)
  · simp [State.counted]
  · obtain ⟨hissued, hdrain, htick, hcount⟩ := h.account
    exact ⟨by simpa using hissued, by simpa using hdrain, by simpa using htick, hcount⟩

/-- What a completion leaves of the issue list and the tick count, whatever it brings. -/
theorem State.completePass_account (s : State) (q : QueueEntry) (ans : MemResponse) :
    (s.completePass q ans).arbiter.issued.length = s.arbiter.issued.tail.length ∧
      (s.completePass q ans).arbiter.drain = s.arbiter.drain ∧ (s.completePass q ans).time.tick = s.time.tick := by
  apply State.completePass_keeps q ans (P := fun u => u.arbiter.issued.length = s.arbiter.issued.tail.length ∧
    u.arbiter.drain = s.arbiter.drain ∧ u.time.tick = s.time.tick)
  · simp
  case hcommand =>
    rintro u wc ⟨hissued, hdrain, htick⟩
    refine State.commandUnit_keeps (P := fun u => u.arbiter.issued.length = s.arbiter.issued.tail.length ∧
      u.arbiter.drain = s.arbiter.drain ∧ u.time.tick = s.time.tick) wc
      ⟨by simpa using hissued, by simpa using hdrain, by simpa using htick⟩ fun v code p c hv => ?_
    obtain ⟨hissued', hdrain', htick', -⟩ := v.deliver_account code p c
    rw [hissued', hdrain', htick']
    exact hv
  all_goals
    intros
    simp_all [State.memoryFault]

/-! ## The capture unit's two steps (R66, R69, R70) -/

@[simp] theorem captureStep_frame (ans : MemResponse) (link : Bool) (k : Nat) (s : State) :
    (captureStep ans link k s).anchorSel = s.anchorSel ∧ (captureStep ans link k s).resetAsserted = s.resetAsserted ∧
      (captureStep ans link k s).queue = s.queue ∧ (captureStep ans link k s).policy = s.policy ∧
      (captureStep ans link k s).denial = s.denial ∧ (captureStep ans link k s).eventStream = s.eventStream ∧
      (captureStep ans link k s).eventWalker = s.eventWalker ∧ (captureStep ans link k s).captureWalker = s.captureWalker ∧
      (captureStep ans link k s).arbiter = s.arbiter ∧ (captureStep ans link k s).command = s.command ∧
      (captureStep ans link k s).time = s.time ∧ (captureStep ans link k s).memoryPort = s.memoryPort ∧
      (captureStep ans link k s).processorPort = s.processorPort ∧ (captureStep ans link k s).freeCount = s.freeCount ∧
      (captureStep ans link k s).pending = s.pending := by
  have hevent : (s.takeCaptured ans).eventStream = s.eventStream := by
    unfold State.takeCaptured
    dsimp only
    repeat' split
    all_goals simp [State.setCapture]
  unfold captureStep
  split
  · split <;> simp [hevent]
  · simp

/-- Both steps, in their order. -/
def State.captured (ans : MemResponse) (link : Bool) (s : State) : State := captureStep ans link 1 (captureStep ans link 0 s)

theorem State.captured_of_link (ans : MemResponse) (s : State) :
    State.captured ans true s = (s.takeCaptured ans).endDueGroups := rfl

theorem State.captured_of_no_link (ans : MemResponse) (s : State) : State.captured ans false s = s := rfl

theorem State.isRaised_takeCaptured_of_isRaised {s : State} {m : Notice} (h : s.isRaised m = true) (ans : MemResponse) :
    (s.takeCaptured ans).isRaised m = true := by
  unfold State.takeCaptured
  dsimp only
  repeat' split
  all_goals simp [h]

theorem State.isRaised_captured_of_isRaised {s : State} {m : Notice} (h : s.isRaised m = true) (ans : MemResponse)
    (link : Bool) : (State.captured ans link s).isRaised m = true := by
  cases link
  · exact h
  · exact State.isRaised_offerDue_of_isRaised _ (State.isRaised_takeCaptured_of_isRaised h ans)

/-- R69: a capture record finds no room. -/
def State.losesCaptured (s : State) (p : PendingEntry) (ans : MemResponse) : Bool :=
  !p.voided && s.captureStream.hasNoRoom .capture (recordOf p ans)

/-- R69: the capture unit after the head of its pending list is taken: a lost record counts in its group, open or owed. -/
def CaptureUnit.taken (c : CaptureUnit) (p : PendingEntry) (rest : List PendingEntry) (lost : Bool) : CaptureUnit :=
  { c with
    pendingList := rest
    openGroup := c.openGroup.map fun g =>
      if lost && decide (g.number = p.group) then { g with lost := min 0xFFFFFFFF (g.lost + 1) } else g
    owed := if lost && !(c.openGroup.any fun g => decide (g.number = p.group)) then
        updateFirst (fun g => decide (g.number = p.group)) (fun g => { g with lost := min 0xFFFFFFFF (g.lost + 1) }) c.owed
      else c.owed }

theorem CaptureUnit.taken_of_kept (c : CaptureUnit) (p : PendingEntry) (rest : List PendingEntry) :
    c.taken p rest false = { c with pendingList := rest } := by
  simp [CaptureUnit.taken]

theorem CaptureUnit.taken_of_lost (c : CaptureUnit) (p : PendingEntry) (rest : List PendingEntry) :
    c.taken p rest true = { c with pendingList := rest }.countGroupLost p.group := by
  rw [CaptureUnit.countGroupLost_eq, CaptureUnit.taken]
  simp only [Bool.true_and, decide_eq_true_eq, Bool.not_eq_true']
  cases c.openGroup.any fun g => decide (g.number = p.group) <;> rfl

section TakeCaptured
variable {s : State} {p : PendingEntry} {rest : List PendingEntry} (h : s.capture.pendingList = p :: rest) (ans : MemResponse)
include h

/-- R66, R69: what the first step leaves. -/
theorem State.takeCaptured_of_cons :
    (s.takeCaptured ans).capture = s.capture.taken p rest (s.losesCaptured p ans) ∧
      (s.takeCaptured ans).captureStream = (if p.voided then s.captureStream
        else s.captureStream.afterOffer .capture s.time.tick (recordOf p ans)) ∧
      (s.losesCaptured p ans = true → (s.takeCaptured ans).isRaised .captureLoss = true) := by
  have hstream (c : CaptureUnit) : (s.setCapture c).stream .capture = s.captureStream := rfl
  unfold State.takeCaptured State.losesCaptured
  rw [h]
  dsimp only
  cases p.voided
  · rw [State.accepts_eq, hstream, p.record_eq]
    cases hroom : s.captureStream.hasNoRoom .capture (recordOf p ans)
    · refine ⟨?_, ?_, fun hlost => by cases hlost⟩
      · simp [CaptureUnit.taken_of_kept]
      · simp [State.captureStream_offer]
    · refine ⟨?_, ?_, fun _ => ?_⟩
      · simp [CaptureUnit.taken_of_lost]
      · simp [State.captureStream_offer]
      · simp [hroom, StreamId.lossNotice, State.stream]
  · exact ⟨by simp [CaptureUnit.taken_of_kept], by simp, fun hlost => by cases hlost⟩

/-- R66, R69, R70: what both steps leave of a linked completion. -/
theorem State.captured_of_cons :
    (State.captured ans true s).capture = { s.capture.taken p rest (s.losesCaptured p ans) with
        owed := stillOwed rest (s.capture.taken p rest (s.losesCaptured p ans)).owed } ∧
      (State.captured ans true s).captureStream = (if p.voided then s.captureStream
        else s.captureStream.afterOffer .capture s.time.tick (recordOf p ans)).afterGroupEnds s.time.tick rest
          (s.capture.taken p rest (s.losesCaptured p ans)).owed ∧
      (s.losesCaptured p ans = true → (State.captured ans true s).isRaised .captureLoss = true) := by
  obtain ⟨hcapture, hstream, hlost⟩ := State.takeCaptured_of_cons h ans
  have hpending : (s.capture.taken p rest (s.losesCaptured p ans)).pendingList = rest := rfl
  have htime : (s.takeCaptured ans).time = s.time := by simp
  rw [State.captured_of_link, State.capture_endDueGroups, State.captureStream_endDueGroups, hcapture, hstream, hpending, htime]
  exact ⟨rfl, rfl, fun h => State.isRaised_offerDue_of_isRaised _ (hlost h)⟩

end TakeCaptured

/-! ## Completions that bring no command (R31, R35, R36) -/

theorem State.commandBeat_congr {s u : State} (hpolicy : u.policy = s.policy) (hsel : u.anchorSel = s.anchorSel)
    (wc : WriteCompletion) : u.commandBeat wc = s.commandBeat wc := by
  simp only [State.commandBeat, hpolicy, hsel]

/-- The beats of a write's completion, as the statements write them. -/
theorem State.completedBeats_eq (s : State) (r : Request) :
    (writeCompletionOf s.policy.active.width r).beats = s.completedBeats r := rfl

theorem State.commandBeat_writeCompletionOf (s : State) (r : Request) :
    s.commandBeat (writeCompletionOf s.policy.active.width r) = s.commandBeatIn (s.completedBeats r) :=
  s.commandBeat_eq _

theorem State.commandUnit_of_no_beat {s : State} {wc : WriteCompletion} (h : s.commandBeat wc = none) :
    s.commandUnit wc = s.takeArguments wc := by
  simp only [State.commandUnit, h]

/-- R31, R36: without a command beat no order is open: the capture unit, the walkers, the argument beats. -/
theorem State.completeWrite_of_no_beat {s : State} {r : Request}
    (h : s.commandBeat (writeCompletionOf s.policy.active.width r) = none) (ans : MemResponse) (link : Bool) :
    s.completeWrite r ans link =
      (State.offerToWalkers s.policy.active.width (writeCompletionOf s.policy.active.width r)
        (State.captured ans link s)).takeArguments (writeCompletionOf s.policy.active.width r) := by
  have horder : s.orderMatters s.policy.active.width (writeCompletionOf s.policy.active.width r) link = false := by
    rw [State.orderMatters, h]
    rfl
  have hbeat : (State.offerToWalkers s.policy.active.width (writeCompletionOf s.policy.active.width r)
      (State.captured ans link s)).commandBeat (writeCompletionOf s.policy.active.width r) = none :=
    (State.commandBeat_congr (by simp [State.captured]) (by simp [State.captured]) _).trans h
  unfold State.completeWrite
  dsimp only
  rw [horder]
  exact State.commandUnit_of_no_beat hbeat

/-- The state that a completion's effects are taken on: the answer popped and stored. -/
def State.answered (s : State) (ans : MemResponse) : State := s.popIssued.storeResponse ans

/-- R35: with ERROR the fault is raised and recorded first. -/
def State.faulted (s : State) (r : Request) (ans : MemResponse) : State :=
  if ans.code = .error then s.memoryFault r else s

theorem State.completePass_of_no_write {q : QueueEntry} {ans : MemResponse}
    (h : ans.code = .error ∨ q.request.kind ≠ .write) (s : State) :
    s.completePass q ans = State.captured ans q.captureLink ((s.answered ans).faulted q.request ans) := by
  show (s.answered ans).completionEffects q.request ans q.captureLink = _
  unfold State.completionEffects State.faulted
  cases hcode : ans.code
  case error => rfl
  case okay =>
    have hkind : q.request.kind ≠ .write := h.resolve_left (by simp [hcode])
    cases hk : q.request.kind
    case write => exact absurd hk hkind
    all_goals rfl

theorem State.faulted_of_okay {ans : MemResponse} (h : ans.code = .okay) (s : State) (r : Request) : s.faulted r ans = s :=
  if_neg (by simp [h])

theorem State.completePass_of_write {q : QueueEntry} {ans : MemResponse} (hcode : ans.code = .okay)
    (hkind : q.request.kind = .write) (s : State) :
    s.completePass q ans = (s.answered ans).completeWrite q.request ans q.captureLink := by
  show (s.answered ans).completionEffects q.request ans q.captureLink = _
  simp only [State.completionEffects, hcode, hkind]

theorem State.faulted_answered_frame (s : State) (r : Request) (ans : MemResponse) :
    ((s.answered ans).faulted r ans).anchorSel = s.anchorSel ∧
      ((s.answered ans).faulted r ans).resetAsserted = s.resetAsserted ∧
      ((s.answered ans).faulted r ans).policy = s.policy ∧ ((s.answered ans).faulted r ans).denial = s.denial ∧
      ((s.answered ans).faulted r ans).capture = s.capture ∧
      ((s.answered ans).faulted r ans).captureStream = s.captureStream ∧
      ((s.answered ans).faulted r ans).eventWalker = s.eventWalker ∧
      ((s.answered ans).faulted r ans).captureWalker = s.captureWalker ∧
      ((s.answered ans).faulted r ans).command = s.command ∧ ((s.answered ans).faulted r ans).time = s.time ∧
      ((s.answered ans).faulted r ans).memoryPort = s.memoryPort ∧
      ((s.answered ans).faulted r ans).processorPort = s.processorPort ∧
      ((s.answered ans).faulted r ans).freeCount = s.freeCount ∧ ((s.answered ans).faulted r ans).pending = s.pending := by
  unfold State.faulted
  split <;> simp [State.memoryFault, State.answered]

/-- R35: an ERROR's notice and record. -/
theorem State.faulted_of_error {ans : MemResponse} (h : ans.code = .error) (s : State) (r : Request) :
    ((s.answered ans).faulted r ans).isRaised .memfault = true ∧
      ((s.answered ans).faulted r ans).eventStream = s.eventStream.afterOffer .event s.time.tick
        (.memfault r.address r.kind r.privilege r.master s.time.tick) := by
  rw [State.faulted, if_pos h]
  refine ⟨by simp [State.memoryFault], ?_⟩
  rw [State.memoryFault, State.eventStream_offer]
  simp [State.answered]

/-- R31: where no command is delivered, the capture unit's steps alone touch the capture unit. -/
theorem State.completePass_captured {s : State} {q : QueueEntry} {ans : MemResponse}
    (h : ans.code = .error ∨ q.request.kind ≠ .write ∨ s.commandBeatIn (s.completedBeats q.request) = none) :
    (s.completePass q ans).capture =
        (State.captured ans q.captureLink ((s.answered ans).faulted q.request ans)).capture ∧
      (s.completePass q ans).captureStream =
        (State.captured ans q.captureLink ((s.answered ans).faulted q.request ans)).captureStream ∧
      (s.completePass q ans).notices =
        (State.captured ans q.captureLink ((s.answered ans).faulted q.request ans)).notices := by
  by_cases hwrite : ans.code = .error ∨ q.request.kind ≠ .write
  · rw [State.completePass_of_no_write hwrite]
    exact ⟨rfl, rfl, rfl⟩
  · obtain ⟨hcode, hkind⟩ := not_or.1 hwrite
    have hokay : ans.code = .okay := by
      cases hc : ans.code
      · rfl
      · exact absurd hc hcode
    have hbeat : (s.answered ans).commandBeat (writeCompletionOf (s.answered ans).policy.active.width q.request) = none :=
      ((s.answered ans).commandBeat_writeCompletionOf q.request).trans ((h.resolve_left hcode).resolve_left hkind)
    rw [State.completePass_of_write hokay (not_not.1 hkind), State.completeWrite_of_no_beat hbeat,
      State.faulted_of_okay hokay]
    exact ⟨by simp, by simp, by simp⟩

/-- R31: a completion with ERROR or of a read or fetch. -/
theorem State.completePass_settle_frame {s : State} {q : QueueEntry} {ans : MemResponse}
    (h : ans.code = .error ∨ q.request.kind ≠ .write) :
    (s.completePass q ans).settle = { s with
        queue := (s.completePass q ans).settle.queue, arbiter := (s.completePass q ans).settle.arbiter
        capture := (s.completePass q ans).settle.capture, eventStream := (s.completePass q ans).settle.eventStream
        captureStream := (s.completePass q ans).settle.captureStream
        eventWalker := (s.completePass q ans).settle.eventWalker
        captureWalker := (s.completePass q ans).settle.captureWalker
        command := (s.completePass q ans).settle.command, report := (s.completePass q ans).settle.report
        notices := (s.completePass q ans).settle.notices, freeCount := (s.completePass q ans).settle.freeCount } ∧
      (s.settled = true → (s.completePass q ans).settle.command = s.command) ∧
      (q.captureLink = false → (s.completePass q ans).settle.capture = s.capture ∧
        (s.completePass q ans).settle.captureStream = s.captureStream) := by
  rw [State.completePass_of_no_write h]
  have hframe := s.faulted_answered_frame q.request ans
  refine ⟨?_, fun hsettled => ?_, fun hlink => ?_⟩
  · apply State.eq_of_parts
    all_goals simp [State.captured, hframe]
  · have hquiet (i : StreamId) :
        (State.captured ans q.captureLink ((s.answered ans).faulted q.request ans)).flushQuiet i := by
      refine .inr ?_
      rw [State.walker_congr (s := s) (by simp [State.captured, hframe]) (by simp [State.captured, hframe]) i]
      exact Walker.flushEnds_of_settled ((State.settled_iff s).1 hsettled i)
    rw [(State.settle_quiet hquiet).1]
    simp [State.captured, hframe]
  · rw [hlink, State.captured_of_no_link]
    simp [hframe]

/-- Settles O16: the answer is stored first; then come the fault, or the write's watchers, and the capture unit's steps. -/
theorem memoryAnswerIsStoredWithItsTransaction : Obligations.MemoryAnswerIsStoredWithItsTransaction := by
  intro s e ans before after q howes hdata hlaw hqueue hbefore hq
  have hfind : s.queue.find? QueueEntry.isAtMemory = some q := by
    rw [hqueue]
    exact find?_isAtMemory_of_split hbefore hq
  obtain ⟨hissued, hdrained, htick⟩ := s.completePass_account q ans
  have hframe := s.faulted_answered_frame q.request ans
  have ⟨_, hdrain, _, _, issued, hhead⟩ := howes
  refine ⟨(s.completePass q ans).settle, exec_passMemoryCompletion_of_owes howes hfind hdata,
    State.queue_completePass hlaw hqueue hbefore hq q ans, ?_, ?_, ?_, by simp, by simp, fun herror => ?_,
    State.completePass_settle_frame, fun hlink => ?_, fun hlink hquiet p rest hpending => ?_⟩
  · have hlength : (s.completePass q ans).settle.arbiter.issued.length = s.arbiter.issued.tail.length := by
      simpa using hissued
    rw [hlength, hhead]
    rfl
  · have hd : (s.completePass q ans).settle.arbiter.drain = s.arbiter.drain := by simpa using hdrained
    rw [hd, hdrain]
  · simpa using htick
  · obtain ⟨hraised, hevent⟩ := State.faulted_of_error herror s q.request
    rw [State.completePass_of_no_write (.inl herror)]
    refine ⟨?_, by simp [State.captured, hframe], by simp [State.captured, hframe], by simp [State.captured, hframe],
      by simp [State.captured, hframe], ?_⟩
    · exact State.isRaised_settle_of_isRaised (State.isRaised_captured_of_isRaised hraised ans _)
    · rw [State.eventStream_settle, ← hevent]
      simp [State.captured]
  · have hlength := s.length_pendingList_completePass q ans
    rw [hlink] at hlength
    rw [State.capture_settle, hlength]
    cases s.capture.pendingList with
    | nil => exact .inr rfl
    | cons p ps => exact .inl rfl
  · intro lost ofOpen owed
    obtain ⟨hcapture, hstream, hnotices⟩ := State.completePass_captured hquiet
    obtain ⟨-, -, -, -, hunit, hfifo, -, -, -, htime, -⟩ := hframe
    rw [hlink] at hcapture hstream hnotices
    obtain ⟨htaken, hends, hloss⟩ := State.captured_of_cons (s := (s.answered ans).faulted q.request ans)
      (by rw [hunit]; exact hpending) ans
    have hlost : ((s.answered ans).faulted q.request ans).losesCaptured p ans = lost := by
      rw [State.losesCaptured, hfifo]
    rw [hlost, hunit] at htaken
    rw [hlost, hunit, hfifo, htime] at hends
    refine ⟨?_, ?_, fun hl => ?_⟩
    · rw [State.capture_settle, hcapture, htaken]
      rfl
    · rw [State.captureStream_settle, hstream, hends]
      rfl
    · refine State.isRaised_settle_of_isRaised ?_
      rw [State.isRaised_congr hnotices]
      exact hloss (hlost.trans hl)

end Sys2Proof.Machine
end

section
/-! SUPPORT. An OKAY write's completion at the watchers (R36, R105, R131, R133): the walkers it releases, the argument beats, and
the delivery that a command beat makes. -/

namespace Sys2Proof.Machine

/-! ## Releases (R105) -/

theorem State.releases_iff (s : State) (r : Request) (i : StreamId) :
    s.releases (s.completedBeats r) i = true ↔ (s.walker i).state = .waiting ∧
      (writeCompletionOf s.policy.active.width r).coversStatus s.policy.active.width (s.walker i).current = true := by
  rw [State.releases, Bool.and_eq_true, decide_eq_true_eq]
  refine and_congr_right fun _ => ?_
  rw [WriteCompletion.coversStatus, State.completedBeats_eq]
  have hbeat (b : CompletedBeat) : decide (b.enables ≠ 0) = (b.enables != 0) := by
    rw [Bool.eq_iff_iff, decide_eq_true_iff, bne_iff_ne]
  simp only [hbeat]
  rfl

theorem State.walker_offerToWalker (s : State) (width : Nat) (wc : WriteCompletion) (i j : StreamId) :
    (s.offerToWalker width wc i).walker j =
      if j = i ∧ (s.walker i).state = .waiting ∧ wc.coversStatus width (s.walker i).current = true then
        { s.walker i with state := .fetching }
      else s.walker j := by
  unfold State.offerToWalker State.refetch
  by_cases h : (s.walker i).state = .waiting ∧ wc.coversStatus width (s.walker i).current = true
  · rw [if_pos h, State.walker_moveWalker]
    exact if_congr (by simp only [h, and_self, and_true]) rfl rfl
  · rw [if_neg h, if_neg (fun hj => h hj.2)]

/-- R105: each walker takes the completion by itself. -/
theorem State.walker_offerToWalkers (s : State) (width : Nat) (wc : WriteCompletion) (i : StreamId) :
    (State.offerToWalkers width wc s).walker i =
      if (s.walker i).state = .waiting ∧ wc.coversStatus width (s.walker i).current = true then
        { s.walker i with state := .fetching }
      else s.walker i := by
  unfold State.offerToWalkers
  cases i <;> simp [State.walker_offerToWalker]

theorem State.offerToWalker_of_not_released {s : State} {width : Nat} {wc : WriteCompletion} {i : StreamId}
    (h : ¬ ((s.walker i).state = .waiting ∧ wc.coversStatus width (s.walker i).current = true)) :
    s.offerToWalker width wc i = s := if_neg h

theorem State.offerToWalkers_of_not_released {s : State} {width : Nat} {wc : WriteCompletion}
    (h : ∀ i, ¬ ((s.walker i).state = .waiting ∧ wc.coversStatus width (s.walker i).current = true)) :
    State.offerToWalkers width wc s = s := by
  rw [State.offerToWalkers, State.offerToWalker_of_not_released (h .event), State.offerToWalker_of_not_released (h .capture)]

theorem State.isDirty_offerToWalker_of_isDirty {s : State} {d : Section} (h : s.isDirty d = true) (width : Nat)
    (wc : WriteCompletion) (i : StreamId) : (s.offerToWalker width wc i).isDirty d = true := by
  unfold State.offerToWalker State.refetch
  split
  · simp [h]
  · exact h

/-- R94, R105: a released walker dirties its section. -/
theorem State.isDirty_offerToWalkers_of_released {s : State} {width : Nat} {wc : WriteCompletion} {i : StreamId}
    (h : (s.walker i).state = .waiting ∧ wc.coversStatus width (s.walker i).current = true) :
    (State.offerToWalkers width wc s).isDirty i.reportSection = true := by
  have hreleased {u : State} (hu : u.walker i = s.walker i) :
      (u.offerToWalker width wc i).isDirty i.reportSection = true := by
    rw [← hu] at h
    rw [State.offerToWalker, if_pos h, State.refetch]
    simp [h.1]
  unfold State.offerToWalkers
  cases i with
  | event => exact State.isDirty_offerToWalker_of_isDirty (hreleased rfl) ..
  | capture => exact hreleased (by simp [State.walker_offerToWalker])

/-! ## Argument beats and the delivery (R131, R133) -/

theorem State.takeArguments_eq (s : State) (wc : WriteCompletion) :
    s.takeArguments wc = { s with command := { s.command with shadow := (s.takeArguments wc).command.shadow } } := by
  unfold State.takeArguments
  split <;> rfl

/-- The shadow that argument beats leave reads the width, ANCHOR_SEL and the shadow alone. -/
theorem State.shadow_takeArguments_congr {s u : State} (hpolicy : u.policy = s.policy) (hsel : u.anchorSel = s.anchorSel)
    (hshadow : u.command.shadow = s.command.shadow) (wc : WriteCompletion) :
    (u.takeArguments wc).command.shadow = (s.takeArguments wc).command.shadow := by
  unfold State.takeArguments
  rw [hpolicy, hsel, hshadow]
  split
  · rfl
  · exact hshadow

/-- The answer's bookkeeping leaves what the argument beats write unchanged. -/
theorem State.shadow_takeArguments_answered (s : State) (r : Request) (ans : MemResponse) :
    ((s.answered ans).takeArguments (writeCompletionOf (s.answered ans).policy.active.width r)).command.shadow =
      (s.takeArguments (writeCompletionOf s.policy.active.width r)).command.shadow :=
  State.shadow_takeArguments_congr (s := s) (u := s.answered ans) rfl rfl rfl _

theorem State.count_takeArguments (s : State) (wc : WriteCompletion) :
    (s.takeArguments wc).command.count = s.command.count := by
  rw [State.takeArguments_eq]

theorem State.count_commandUnit (s : State) (wc : WriteCompletion) :
    (s.commandUnit wc).command.count = s.command.count + (if (s.commandBeat wc).isSome then 1 else 0) := by
  unfold State.commandUnit
  cases s.commandBeat wc with
  | none => simp
  | some b =>
    obtain ⟨-, -, -, hcount⟩ := (s.takeArguments wc).deliver_account (commandCode b) wc.privilege (commandOf (commandCode b))
    rw [State.count_takeArguments] at hcount
    exact hcount

@[simp] theorem State.commandBeat_captureStep (ans : MemResponse) (link : Bool) (k : Nat) (s : State) (wc : WriteCompletion) :
    (captureStep ans link k s).commandBeat wc = s.commandBeat wc := State.commandBeat_congr (by simp) (by simp) wc

@[simp] theorem State.commandBeat_offerToWalkers (width : Nat) (wc' : WriteCompletion) (s : State) (wc : WriteCompletion) :
    (State.offerToWalkers width wc' s).commandBeat wc = s.commandBeat wc := State.commandBeat_congr (by simp) (by simp) wc

/-- R134: in any order the completion counts one delivery where it holds a command beat. -/
theorem State.count_offerWrite (s : State) (o : CompletionOrder) (width : Nat) (wc : WriteCompletion) (ans : MemResponse)
    (link : Bool) : (s.offerWrite o width wc ans link).command.count =
      s.command.count + (if (s.commandBeat wc).isSome then 1 else 0) := by
  unfold State.offerWrite
  dsimp only
  split <;> split <;> split <;> simp [State.count_commandUnit]

theorem State.count_completeWrite (s : State) (r : Request) (ans : MemResponse) (link : Bool) :
    (s.completeWrite r ans link).command.count =
      s.command.count + (if (s.commandBeatIn (s.completedBeats r)).isSome then 1 else 0) := by
  rw [← State.commandBeat_writeCompletionOf]
  unfold State.completeWrite
  dsimp only
  split
  · exact State.count_offerWrite ..
  · exact State.count_offerWrite ..

/-! ## With a command beat and no open order (R133, R134) -/

theorem State.walker_answered (s : State) (ans : MemResponse) (i : StreamId) : (s.answered ans).walker i = s.walker i :=
  State.walker_congr rfl rfl i

/-- R31, R36: a write that is not captured and releases no walker is its delivery, on the merged shadow. -/
theorem State.completeWrite_of_beat {s : State} {r : Request} {b : CompletedBeat}
    (hbeat : s.commandBeat (writeCompletionOf s.policy.active.width r) = some b)
    (hreleases : ∀ i, s.releases (s.completedBeats r) i = false) (ans : MemResponse) :
    s.completeWrite r ans false =
      (s.takeArguments (writeCompletionOf s.policy.active.width r)).deliver (commandCode b) r.privilege
        (commandOf (commandCode b)) := by
  have hcovered (i : StreamId) : ¬ ((s.walker i).state = .waiting ∧ (writeCompletionOf s.policy.active.width r).coversStatus
      s.policy.active.width (s.walker i).current = true) := by
    rw [← State.releases_iff, hreleases i]
    simp
  have horder : s.orderMatters s.policy.active.width (writeCompletionOf s.policy.active.width r) false = false := by
    simp only [State.orderMatters, Bool.false_or, Bool.and_eq_false_iff, List.any_eq_false, Bool.and_eq_true,
      decide_eq_true_eq]
    exact .inr fun i _ => hcovered i
  have hstays := State.offerToWalkers_of_not_released hcovered
  unfold State.completeWrite
  dsimp only
  rw [horder]
  show (State.offerToWalkers s.policy.active.width (writeCompletionOf s.policy.active.width r) s).commandUnit _ = _
  rw [hstays, State.commandUnit, hbeat]
  rfl

/-! ## Without a command beat (R105) -/

/-- The watchers' share of an OKAY write without a command beat, behind the capture unit's. -/
def State.watched (s : State) (r : Request) (ans : MemResponse) (link : Bool) : State :=
  (State.offerToWalkers s.policy.active.width (writeCompletionOf s.policy.active.width r)
    (State.captured ans link s)).takeArguments (writeCompletionOf s.policy.active.width r)

theorem State.walker_captured (ans : MemResponse) (link : Bool) (s : State) (i : StreamId) :
    (State.captured ans link s).walker i = s.walker i :=
  State.walker_congr (by simp [State.captured]) (by simp [State.captured]) i

theorem State.walker_watched (s : State) (r : Request) (ans : MemResponse) (link : Bool) (i : StreamId) :
    (s.watched r ans link).walker i =
      if s.releases (s.completedBeats r) i then { s.walker i with state := .fetching } else s.walker i := by
  have hwalker : (s.watched r ans link).walker i =
      (State.offerToWalkers s.policy.active.width (writeCompletionOf s.policy.active.width r)
        (State.captured ans link s)).walker i := State.walker_congr (by simp [State.watched]) (by simp [State.watched]) i
  rw [hwalker, State.walker_offerToWalkers, State.walker_captured]
  exact if_congr (s.releases_iff r i).symm rfl rfl

theorem State.isDirty_watched_of_released {s : State} {r : Request} {i : StreamId}
    (h : s.releases (s.completedBeats r) i = true) (ans : MemResponse) (link : Bool) :
    (s.watched r ans link).isDirty i.reportSection = true := by
  have hdirty : (s.watched r ans link).isDirty i.reportSection =
      (State.offerToWalkers s.policy.active.width (writeCompletionOf s.policy.active.width r)
        (State.captured ans link s)).isDirty i.reportSection := State.isDirty_congr (by simp [State.watched]) _
  rw [hdirty]
  refine State.isDirty_offerToWalkers_of_released ?_
  rw [State.walker_captured]
  exact (s.releases_iff r i).1 h

theorem State.command_watched (s : State) (r : Request) (ans : MemResponse) (link : Bool) :
    (s.watched r ans link).command =
      { s.command with shadow := (s.takeArguments (writeCompletionOf s.policy.active.width r)).command.shadow } := by
  have hshadow := State.shadow_takeArguments_congr (s := s)
    (u := State.offerToWalkers s.policy.active.width (writeCompletionOf s.policy.active.width r)
      (State.captured ans link s)) (by simp [State.captured]) (by simp [State.captured]) (by simp [State.captured])
    (writeCompletionOf s.policy.active.width r)
  rw [State.watched, State.takeArguments_eq]
  rw [hshadow]
  simp [State.captured]

/-- R103, R105: without a capture link nothing is left to judge: a released walker fetches, and the others stand. -/
theorem State.settled_watched {s : State} (h : s.settled = true) (r : Request) (ans : MemResponse) :
    (s.watched r ans false).settled = true := by
  rw [State.settled_iff]
  intro i
  rw [State.walker_watched]
  have hstream : (s.watched r ans false).stream i = s.stream i := by
    cases i <;> simp [State.stream, State.watched, State.captured_of_no_link]
  have hlinger : (s.watched r ans false).lingerSetting i = s.lingerSetting i :=
    State.lingerSetting_congr (by simp [State.watched, State.captured]) i
  split
  · exact Walker.settled_of_not_atRest (Walker.atRest_of_state_ne (by simp)) _ _
  · rw [hstream, hlinger]
    exact (State.settled_iff s).1 h i

theorem State.fetching_stands {s : State} {i : StreamId} {w : Walker} (h : s.walker i = { w with state := .fetching })
    (hidle : w.inFlight = none) : s.stands i.requester = true := by
  rw [State.stands_requester, State.walkerStands, h]
  simp [Walker.wantsFetch, hidle]

/-- R36, R105: a completing write without a command beat. -/
theorem write_without_beat {s : State} {q : QueueEntry} {ans : MemResponse} (hcode : ans.code = .okay)
    (hkind : q.request.kind = .write) (hbeat : s.commandBeatIn (s.completedBeats q.request) = none) {t : State}
    (ht : t = (s.completePass q ans).settle) :
    let shadow := (s.takeArguments (writeCompletionOf s.policy.active.width q.request)).command.shadow
    t.command.shadow = shadow ∧ t.command.count = s.command.count ∧
      (∀ i, s.releases (s.completedBeats q.request) i = true →
        t.walker i = { s.walker i with state := .fetching } ∧ t.isDirty i.reportSection = true ∧
        ((s.walker i).inFlight = none → t.stands i.requester = true)) ∧
      (∀ i, (s.walker i).state = .waiting → s.releases (s.completedBeats q.request) i = false → t.walker i = s.walker i) ∧
      (s.settled = true → q.captureLink = false →
        (∀ i, s.releases (s.completedBeats q.request) i = false → t.walker i = s.walker i) ∧
        t = { s with
          queue := t.queue, arbiter := { s.arbiter with issued := s.arbiter.issued.tail }
          command := { s.command with shadow := shadow }, eventWalker := t.eventWalker, captureWalker := t.captureWalker
          report := t.report }) := by
  intro shadow
  have hbeat' : (s.answered ans).commandBeat (writeCompletionOf (s.answered ans).policy.active.width q.request) = none :=
    ((s.answered ans).commandBeat_writeCompletionOf q.request).trans hbeat
  replace ht : t = ((s.answered ans).watched q.request ans q.captureLink).settle := by
    rw [ht, State.completePass_of_write hcode hkind, State.completeWrite_of_no_beat hbeat']
    rfl
  have hwalker (i : StreamId) : ((s.answered ans).watched q.request ans q.captureLink).walker i =
      if s.releases (s.completedBeats q.request) i then { s.walker i with state := .fetching } else s.walker i := by
    rw [State.walker_watched, State.walker_answered]
    rfl
  have hcommand := (s.answered ans).command_watched q.request ans q.captureLink
  have hfetches (i : StreamId) (hi : s.releases (s.completedBeats q.request) i = true) :
      t.walker i = { s.walker i with state := .fetching } := by
    have hw := hwalker i
    rw [if_pos hi] at hw
    rw [ht, State.walker_settle_of_not_atRest, hw]
    rw [hw]
    exact Walker.atRest_of_state_ne (by simp)
  refine ⟨?_, ?_, fun i hi => ⟨hfetches i hi, ?_, State.fetching_stands (hfetches i hi)⟩, fun i hwaiting hi => ?_,
    fun hsettled hlink => ?_⟩
  · rw [ht]
    simp only [State.settle_command_frame, hcommand]
    exact s.shadow_takeArguments_answered q.request ans
  · rw [ht, State.count_settle, hcommand]
    rfl
  · rw [ht]
    exact State.isDirty_settle_of_isDirty (State.isDirty_watched_of_released (s := s.answered ans) hi ans q.captureLink)
  · have hw := hwalker i
    rw [hi, if_neg (by simp)] at hw
    rw [ht, State.walker_settle_of_not_atRest, hw]
    rw [hw]
    exact Walker.atRest_of_state_ne (by simp [hwaiting])
  · have hquiet : t = (s.answered ans).watched q.request ans q.captureLink := by
      rw [ht, hlink]
      exact State.settle_of_settled (State.settled_watched (s := s.answered ans) hsettled q.request ans)
    refine ⟨fun i hi => ?_, ?_⟩
    · rw [hquiet, hwalker, hi]
      rfl
    · rw [hquiet, hlink]
      apply State.eq_of_parts
      case command =>
        rw [State.command_watched, State.shadow_takeArguments_answered]
        rfl
      all_goals simp [State.watched, State.captured_of_no_link, State.answered]

/-- Settles O17: by whether the write holds a command beat. -/
theorem okayWriteDeliversACommandBeat : Obligations.OkayWriteDeliversACommandBeat := by
  intro s e ans q howes hdata hfind hkind hcode
  have hlive := howes.live
  refine ⟨(s.completePass q ans).settle,
    (s.takeArguments (writeCompletionOf s.policy.active.width q.request)).command.shadow,
    exec_passMemoryCompletion_of_owes howes hfind hdata, ?_⟩
  intro beats issued
  refine ⟨fun huser => ?_, fun hsupervisor => s.shadowTakes_takeArguments _ hsupervisor, ?_,
    fun b c hbeat hlink hreleases hrow => ?_, fun hbeat => write_without_beat hcode hkind hbeat rfl⟩
  · have hpriv : ¬ (writeCompletionOf s.policy.active.width q.request).privilege = .supervisor := by
      show ¬ q.request.privilege = .supervisor
      simp [huser]
    rw [State.takeArguments, if_neg hpriv]
  · rw [State.count_settle, State.completePass_of_write hcode hkind]
    exact State.count_completeWrite (s.answered ans) q.request ans q.captureLink
  · have hbeat' : (s.answered ans).commandBeat (writeCompletionOf (s.answered ans).policy.active.width q.request) = some b :=
      ((s.answered ans).commandBeat_writeCompletionOf q.request).trans hbeat
    have hdelivered := State.completeWrite_of_beat (s := s.answered ans) hbeat' hreleases ans
    have hqueue : (s.completePass q ans).settle.queue = (s.answered ans).queue := by
      rw [settle_queue]
      simp [State.answered]
    have hstate : { s with
        queue := (s.completePass q ans).settle.queue, arbiter := { s.arbiter with issued := issued }
        command := { s.command with
          shadow := (s.takeArguments (writeCompletionOf s.policy.active.width q.request)).command.shadow } } =
        (s.answered ans).takeArguments (writeCompletionOf (s.answered ans).policy.active.width q.request) := by
      rw [hqueue, State.takeArguments_eq (s.answered ans), State.shadow_takeArguments_answered]
      rfl
    rw [hstate, exec_of_deliveredBy hrow, State.completePass_of_write hcode hkind, hlink, hdelivered]
    exact event_of_enabled (by simpa [State.live, State.answered] using hlive) _

end Sys2Proof.Machine
end
